-- ==== Sys2Proof/Word.lean ====
section
/-! DEFINITION. The widths of the block (spec/00_scope.md R6) and the alphabet of bus events (R9). -/

namespace Sys2Proof

/-- A byte on the data bus (R6, DATA_WIDTH). -/
abbrev Byte := BitVec 8

/-- A command, a register number, a ControllerID or a 16-bit operand field (R6, CMD_WIDTH, ID_WIDTH). -/
abbrev Half := BitVec 16

/-- A pixel, 16 bits whose channels the block never looks at (R6, PIXEL_WIDTH; R66). -/
abbrev Pixel := BitVec 16

/-- A descriptor word, a result word, a count or a BUF index (R6, R64, R68). -/
abbrev Word := BitVec 32

/-- The level of one control line, 0 or 1 (R9, R21). -/
abbrev Level := BitVec 1

/-- BusDirection (R24): `write` means the data pins are outputs driven from DOUT, `read` that they are inputs. -/
inductive Dir where
  | write
  | read
deriving DecidableEq, Repr, Inhabited

/-- The kinds of busy-wait (R9, R185); `init n` is the variant's own wait of at least `n` milliseconds. -/
inductive DelayKind where
  | strobe
  | turnaround
  | resetLow
  | resetHigh
  | setc
  | init (n : Nat)
deriving DecidableEq, Repr, Inhabited

/-- The event alphabet of R9. A line event is emitted at every drive, also when the level does not change. -/
inductive Event where
  /-- The platform pin configuration is done. -/
  | cfg
  | cs (b : Level)
  | cd (b : Level)
  | wr (b : Level)
  | rd (b : Level)
  | rst (b : Level)
  | dir (d : Dir)
  /-- The output latch is loaded with `v`. -/
  | dout (v : Byte)
  /-- The data pins are sampled and `v` was seen. -/
  | sample (v : Byte)
  | delay (k : DelayKind)
deriving DecidableEq, Repr, Inhabited

end Sys2Proof
end

