-- ==== Sys2Proof/Syntax.lean ====
section
/-! DEFINITION. The 29 operations of spec/opcode_table.json (spec/30_encoding.md R67), their operands in
R67's order, each at the width of R66. A signed operand is held as its 16-bit field. -/

namespace Sys2Proof

inductive Instr where
  -- BusSignal (R81 to R89)
  | csAssert
  | csIdle
  | cdCommand
  | cdData
  | wrStrobe
  | writeByte (v : Byte)
  | readByte
  | setDirWrite
  | setDirRead
  -- RegisterProtocol (R96 to R103)
  | writeCommand (cmd : Half)
  | writeReg8 (addr : Half) (data : Byte)
  | writeReg16 (addr : Half) (data : Half)
  | writeReg24 (addr : Half) (data : BitVec 24)
  | writeReg32 (addr : Half) (data : Word)
  | writeRegPair (addrHigh addrLow : Half) (data : Half)
  | readReg16 (addr : Half)
  | readReg32 (addr : Half)
  -- Start-up and detection (R111, R113, R120, R121)
  | reset
  | readId
  | spawn (id : Half)
  | beginInit
  -- BlitEngine (R131 to R140)
  | setAddrWindow (x1 y1 x2 y2 : Half)
  | flood (color : Pixel) (count : Word)
  | pushColors (first : Bool) (count base : Word)
  | drawBitmap (x y w h : Half) (base : Word)
  | drawPixel (color : Pixel) (x y : Half)
  | fillRect (color : Pixel) (x y w h : Half)
  | drawFastHLine (color : Pixel) (x y len : Half)
  | drawFastVLine (color : Pixel) (x y len : Half)
deriving DecidableEq, Repr

end Sys2Proof
end

