-- ==== Sys2Proof/WellFormed.lean ====
section
/-! DEFINITION. When a descriptor is well formed (spec/30_encoding.md R64, R65, R69), as a table of match
and mask written from the formats of R65 and apart from the decoder. The widths of an `Instr`'s operands
stand in its types, so every `Instr` can be encoded; what can be ill formed is a list of words. -/

namespace Sys2Proof

/-- One row: word 0 equals `pattern` under `mask`, and for each further word of the format the bits
that must be zero. -/
structure FormatRow where
  pattern  : Word
  mask     : Word
  tailZero : List Word
deriving DecidableEq, Repr

/-- Check (a) and (b) of R69 on word 0: the opcode is this row's and its must-be-zero bits are 0. -/
def FormatRow.headOk (r : FormatRow) (w0 : Word) : Bool := w0 &&& r.mask = r.pattern

/-- Check (d) of R69: as many words as the format has. -/
def FormatRow.lengthOk (r : FormatRow) (tail : List Word) : Bool := tail.length = r.tailZero.length

/-- Checks (b) and (c) of R69 on the words after word 0. -/
def FormatRow.tailOk (r : FormatRow) (tail : List Word) : Bool :=
  (tail.zip r.tailZero).all fun p => p.1 &&& p.2 = 0#32

/-- Formats F0, FB and FA: one word. -/
def oneWordRows : List FormatRow :=
  [ ⟨0x10000000#32, 0xFFFFFFFF#32, []⟩, ⟨0x11000000#32, 0xFFFFFFFF#32, []⟩
  , ⟨0x12000000#32, 0xFFFFFFFF#32, []⟩, ⟨0x13000000#32, 0xFFFFFFFF#32, []⟩
  , ⟨0x14000000#32, 0xFFFFFFFF#32, []⟩, ⟨0x15000000#32, 0xFFFFFF00#32, []⟩
  , ⟨0x16000000#32, 0xFFFFFFFF#32, []⟩, ⟨0x17000000#32, 0xFFFFFFFF#32, []⟩
  , ⟨0x18000000#32, 0xFFFFFFFF#32, []⟩, ⟨0x20000000#32, 0xFFFF0000#32, []⟩
  , ⟨0x26000000#32, 0xFFFF0000#32, []⟩, ⟨0x27000000#32, 0xFFFF0000#32, []⟩
  , ⟨0x30000000#32, 0xFFFFFFFF#32, []⟩, ⟨0x31000000#32, 0xFFFFFFFF#32, []⟩
  , ⟨0x32000000#32, 0xFFFF0000#32, []⟩, ⟨0x33000000#32, 0xFFFFFFFF#32, []⟩ ]

/-- Formats FR, FP, FF and FX: two words. -/
def twoWordRows : List FormatRow :=
  [ ⟨0x21000000#32, 0xFFFF0000#32, [0xFFFFFF00#32]⟩, ⟨0x22000000#32, 0xFFFF0000#32, [0xFFFF0000#32]⟩
  , ⟨0x23000000#32, 0xFFFF0000#32, [0xFF000000#32]⟩, ⟨0x24000000#32, 0xFFFF0000#32, [0#32]⟩
  , ⟨0x25000000#32, 0xFFFF0000#32, [0#32]⟩, ⟨0x41000000#32, 0xFFFF0000#32, [0#32]⟩
  , ⟨0x44000000#32, 0xFFFF0000#32, [0#32]⟩ ]

/-- Formats FW, FS, FQ, FL and FM: three or four words. -/
def longRows : List FormatRow :=
  [ ⟨0x40000000#32, 0xFFFFFFFF#32, [0#32, 0#32]⟩, ⟨0x42000000#32, 0xFFFEFFFF#32, [0#32, 0#32]⟩
  , ⟨0x45000000#32, 0xFFFF0000#32, [0#32, 0#32]⟩, ⟨0x46000000#32, 0xFFFF0000#32, [0#32, 0xFFFF0000#32]⟩
  , ⟨0x47000000#32, 0xFFFF0000#32, [0#32, 0xFFFF0000#32]⟩
  , ⟨0x43000000#32, 0xFFFFFFFF#32, [0#32, 0#32, 0#32]⟩ ]

/-- One row for each operation of R67. -/
def formatRows : List FormatRow := oneWordRows ++ twoWordRows ++ longRows

/-- A well-formed descriptor: some row of the table takes it. -/
def wellFormed (d : List Word) : Bool :=
  match d with
  | [] => false
  | w0 :: tail => formatRows.any fun r => r.headOk w0 && r.lengthOk tail && r.tailOk tail

end Sys2Proof
end

