-- ==== Sys2Proof/Decode.lean ====
section
/-! DEFINITION. The decoder of descriptors (spec/30_encoding.md R64 to R70), total and rejecting by name;
after it the encoder, from the same formats. The bit layout is the spec's own (D20; log 20). -/

namespace Sys2Proof

/-- Why a list of words does not decode: the cases of R69. All of them are the one refusal BadDescriptor. -/
inductive DecodeError where
  /-- (a) the opcode is none of the 29. -/
  | unknownOpcode
  /-- (b) a bit shown as 0 in the format is 1. -/
  | reservedBit
  /-- (c) a data bit above the operation's width is 1. -/
  | dataTooWide
  /-- (d) fewer or more words than the format has. -/
  | wordCount
deriving DecidableEq, Repr

/-- Word 0 is `opcode[31:24] : flags[23:16] : imm16[15:0]` (R64). -/
def opcodeOf (w : Word) : Byte := w.extractLsb' 24 8

def flagsOf (w : Word) : Byte := w.extractLsb' 16 8

/-- The upper half of a word. -/
def hiHalf (w : Word) : Half := w.extractLsb' 16 16

/-- The lower half of a word; `imm16` of word 0. -/
def loHalf (w : Word) : Half := w.extractLsb' 0 16

/-- Format F0: no operand. -/
def decodeF0 (i : Instr) (w0 : Word) (tail : List Word) : Except DecodeError Instr :=
  match tail with
  | [] => if flagsOf w0 = 0 ∧ loHalf w0 = 0 then .ok i else .error .reservedBit
  | _ => .error .wordCount

/-- Format FB: a byte in bits 7:0. -/
def decodeFB (f : Byte → Instr) (w0 : Word) (tail : List Word) : Except DecodeError Instr :=
  match tail with
  | [] =>
    if flagsOf w0 = 0 ∧ w0.extractLsb' 8 8 = 0 then .ok (f (w0.extractLsb' 0 8)) else .error .reservedBit
  | _ => .error .wordCount

/-- Format FA: a 16-bit operand in bits 15:0. -/
def decodeFA (f : Half → Instr) (w0 : Word) (tail : List Word) : Except DecodeError Instr :=
  match tail with
  | [] => if flagsOf w0 = 0 then .ok (f (loHalf w0)) else .error .reservedBit
  | _ => .error .wordCount

/-- Format FR: an address, and `n` data bits right-aligned in word 1 with zeros above them. -/
def decodeFR (n : Nat) (f : Half → BitVec n → Instr) (w0 : Word) (tail : List Word) :
    Except DecodeError Instr :=
  match tail with
  | [w1] =>
    if flagsOf w0 = 0 then
      if w1.toNat < 2 ^ n then .ok (f (loHalf w0) (w1.setWidth n)) else .error .dataTooWide
    else .error .reservedBit
  | _ => .error .wordCount

/-- Formats FP, FF and FX: 16 bits in word 0 and a whole second word. -/
def decodeTwo (f : Half → Word → Instr) (w0 : Word) (tail : List Word) : Except DecodeError Instr :=
  match tail with
  | [w1] => if flagsOf w0 = 0 then .ok (f (loHalf w0) w1) else .error .reservedBit
  | _ => .error .wordCount

/-- Format FW: four 16-bit fields in words 1 and 2. -/
def decodeFW (f : Half → Half → Half → Half → Instr) (w0 : Word) (tail : List Word) :
    Except DecodeError Instr :=
  match tail with
  | [w1, w2] =>
    if flagsOf w0 = 0 ∧ loHalf w0 = 0 then .ok (f (hiHalf w1) (loHalf w1) (hiHalf w2) (loHalf w2))
    else .error .reservedBit
  | _ => .error .wordCount

/-- Format FS: `first` in bit 16 of word 0, count and base. -/
def decodeFS (f : Bool → Word → Word → Instr) (w0 : Word) (tail : List Word) :
    Except DecodeError Instr :=
  match tail with
  | [w1, w2] =>
    if w0.extractLsb' 17 7 = 0 ∧ loHalf w0 = 0 then .ok (f (w0.getLsbD 16) w1 w2)
    else .error .reservedBit
  | _ => .error .wordCount

/-- Format FM: four 16-bit fields and a base. -/
def decodeFM (f : Half → Half → Half → Half → Word → Instr) (w0 : Word) (tail : List Word) :
    Except DecodeError Instr :=
  match tail with
  | [w1, w2, w3] =>
    if flagsOf w0 = 0 ∧ loHalf w0 = 0 then
      .ok (f (hiHalf w1) (loHalf w1) (hiHalf w2) (loHalf w2) w3)
    else .error .reservedBit
  | _ => .error .wordCount

/-- Format FQ: a colour and four 16-bit fields. -/
def decodeFQ (f : Half → Half → Half → Half → Half → Instr) (w0 : Word) (tail : List Word) :
    Except DecodeError Instr :=
  match tail with
  | [w1, w2] =>
    if flagsOf w0 = 0 then .ok (f (loHalf w0) (hiHalf w1) (loHalf w1) (hiHalf w2) (loHalf w2))
    else .error .reservedBit
  | _ => .error .wordCount

/-- Format FL: a colour, two coordinates and a length under 16 zero bits. -/
def decodeFL (f : Half → Half → Half → Half → Instr) (w0 : Word) (tail : List Word) :
    Except DecodeError Instr :=
  match tail with
  | [w1, w2] =>
    if flagsOf w0 = 0 ∧ hiHalf w2 = 0 then .ok (f (loHalf w0) (hiHalf w1) (loHalf w1) (loHalf w2))
    else .error .reservedBit
  | _ => .error .wordCount

/-- The decoder (R64, R67, R69): the opcode alone determines the format. -/
def decode (d : List Word) : Except DecodeError Instr :=
  match d with
  | [] => .error .wordCount
  | w0 :: tail =>
    match opcodeOf w0 with
    | 0x10#8 => decodeF0 .csAssert w0 tail
    | 0x11#8 => decodeF0 .csIdle w0 tail
    | 0x12#8 => decodeF0 .cdCommand w0 tail
    | 0x13#8 => decodeF0 .cdData w0 tail
    | 0x14#8 => decodeF0 .wrStrobe w0 tail
    | 0x15#8 => decodeFB .writeByte w0 tail
    | 0x16#8 => decodeF0 .readByte w0 tail
    | 0x17#8 => decodeF0 .setDirWrite w0 tail
    | 0x18#8 => decodeF0 .setDirRead w0 tail
    | 0x20#8 => decodeFA .writeCommand w0 tail
    | 0x21#8 => decodeFR 8 .writeReg8 w0 tail
    | 0x22#8 => decodeFR 16 .writeReg16 w0 tail
    | 0x23#8 => decodeFR 24 .writeReg24 w0 tail
    | 0x24#8 => decodeFR 32 .writeReg32 w0 tail
    | 0x25#8 => decodeTwo (fun a w => .writeRegPair a (hiHalf w) (loHalf w)) w0 tail
    | 0x26#8 => decodeFA .readReg16 w0 tail
    | 0x27#8 => decodeFA .readReg32 w0 tail
    | 0x30#8 => decodeF0 .reset w0 tail
    | 0x31#8 => decodeF0 .readId w0 tail
    | 0x32#8 => decodeFA .spawn w0 tail
    | 0x33#8 => decodeF0 .beginInit w0 tail
    | 0x40#8 => decodeFW .setAddrWindow w0 tail
    | 0x41#8 => decodeTwo .flood w0 tail
    | 0x42#8 => decodeFS .pushColors w0 tail
    | 0x43#8 => decodeFM .drawBitmap w0 tail
    | 0x44#8 => decodeTwo (fun c w => .drawPixel c (hiHalf w) (loHalf w)) w0 tail
    | 0x45#8 => decodeFQ .fillRect w0 tail
    | 0x46#8 => decodeFL .drawFastHLine w0 tail
    | 0x47#8 => decodeFL .drawFastVLine w0 tail
    | _ => .error .unknownOpcode

/-- How many words the format of an opcode has (R65, R70); 1 for an opcode that has no format. -/
def descriptorWords (op : Byte) : Nat :=
  match op with
  | 0x21#8 => 2 | 0x22#8 => 2 | 0x23#8 => 2 | 0x24#8 => 2 | 0x25#8 => 2
  | 0x40#8 => 3 | 0x41#8 => 2 | 0x42#8 => 3 | 0x43#8 => 4
  | 0x44#8 => 2 | 0x45#8 => 3 | 0x46#8 => 3 | 0x47#8 => 3
  | _ => 1

/-- Word 0 from its three parts (R64). -/
def headWord (op flags : Byte) (imm : Half) : Word := op ++ flags ++ imm

/-- The encoder (R65): the descriptor of an operation. -/
def encode (i : Instr) : List Word :=
  match i with
  | .csAssert => [headWord 0x10#8 0 0]
  | .csIdle => [headWord 0x11#8 0 0]
  | .cdCommand => [headWord 0x12#8 0 0]
  | .cdData => [headWord 0x13#8 0 0]
  | .wrStrobe => [headWord 0x14#8 0 0]
  | .writeByte v => [headWord 0x15#8 0 (0#8 ++ v)]
  | .readByte => [headWord 0x16#8 0 0]
  | .setDirWrite => [headWord 0x17#8 0 0]
  | .setDirRead => [headWord 0x18#8 0 0]
  | .writeCommand cmd => [headWord 0x20#8 0 cmd]
  | .writeReg8 addr data => [headWord 0x21#8 0 addr, data.setWidth 32]
  | .writeReg16 addr data => [headWord 0x22#8 0 addr, data.setWidth 32]
  | .writeReg24 addr data => [headWord 0x23#8 0 addr, data.setWidth 32]
  | .writeReg32 addr data => [headWord 0x24#8 0 addr, data]
  | .writeRegPair aHigh aLow data => [headWord 0x25#8 0 aHigh, aLow ++ data]
  | .readReg16 addr => [headWord 0x26#8 0 addr]
  | .readReg32 addr => [headWord 0x27#8 0 addr]
  | .reset => [headWord 0x30#8 0 0]
  | .readId => [headWord 0x31#8 0 0]
  | .spawn id => [headWord 0x32#8 0 id]
  | .beginInit => [headWord 0x33#8 0 0]
  | .setAddrWindow x1 y1 x2 y2 => [headWord 0x40#8 0 0, x1 ++ y1, x2 ++ y2]
  | .flood color count => [headWord 0x41#8 0 color, count]
  | .pushColors first count base => [headWord 0x42#8 (0#7 ++ BitVec.ofBool first) 0, count, base]
  | .drawBitmap x y w h base => [headWord 0x43#8 0 0, x ++ y, w ++ h, base]
  | .drawPixel color x y => [headWord 0x44#8 0 color, x ++ y]
  | .fillRect color x y w h => [headWord 0x45#8 0 color, x ++ y, w ++ h]
  | .drawFastHLine color x y len => [headWord 0x46#8 0 color, x ++ y, 0#16 ++ len]
  | .drawFastVLine color x y len => [headWord 0x47#8 0 color, x ++ y, 0#16 ++ len]

/-- The descriptor that a number stands for, bit 0 being the least significant bit of word 0 and each
further word counting on from there. Bits from `nbits` up are 0, and the list has as many words as the
opcode's format, or as `nbits` covers where that is more (log 32). -/
def tableWords (nbits w : Nat) : List Word :=
  let v := w % 2 ^ nbits
  let n := max ((nbits + 31) / 32) (descriptorWords (opcodeOf (BitVec.ofNat 32 v)))
  (List.range n).map fun k => BitVec.ofNat 32 (v / 2 ^ (32 * k))

/-- What the decoder reads from the descriptor numbered as spec/opcode_table.json numbers it. -/
def decodeTableWord (nbits w : Nat) : Option Instr :=
  match decode (tableWords nbits w) with
  | .ok i => some i
  | .error _ => none

end Sys2Proof
end

