-- ==== Sys2Proof/Config.lean ====
section
/-! DEFINITION. The implementation parameters of spec/00_scope.md R6 and the variant record of
spec/10_state.md R29. Their values are OPEN: the machine runs on `Config.board`, a constant
without a body, so that a claim about it holds for every board (log 5). -/

namespace Sys2Proof

/-- The five silicon families (R2, R26). -/
inductive Kind where
  | ili932x
  | ili9341
  | hx8347g
  | hx8357x
  | st7789
deriving DecidableEq, Repr, Inhabited

/-- One step of a variant's sequences (R29); how it is played is R122. -/
inductive RegOp where
  | w8 (addr : Half) (data : Byte)
  | w16 (addr : Half) (data : Half)
  | w24 (addr : Half) (data : BitVec 24)
  | w32 (addr : Half) (data : Word)
  | wp (addrHigh addrLow : Half) (data : Half)
  | wait (ms : Nat)
deriving DecidableEq, Repr, Inhabited

/-- EXTID_READ_WIDTH (R6, R114, D11): the width of each of the two extended-ID reads. -/
inductive ExtIdWidth where
  | bits16
  | bits32
deriving DecidableEq, Repr, Inhabited

/-- SETC_ADDR, SETC_DATA and SETC_WIDTH (R6, R116, D12) as one write of that width. -/
inductive SetcWrite where
  | w8 (addr : Half) (data : Byte)
  | w16 (addr : Half) (data : Half)
  | w24 (addr : Half) (data : BitVec 24)
  | w32 (addr : Half) (data : Word)
deriving DecidableEq, Repr, Inhabited

/-- A panel width or height: an integer in 1 .. 32767 (R29), held as its predecessor so that no
other value can be built. -/
structure PanelExtent where
  pred : Fin 32767
deriving DecidableEq, Repr, Inhabited

/-- The width or height itself. -/
def PanelExtent.size (e : PanelExtent) : Nat := e.pred.val + 1

/-- The variant record (R29, D17). -/
structure VariantRecord where
  width     : PanelExtent
  height    : PanelExtent
  gramWrite : Half
  windowSeq : Half → Half → Half → Half → List RegOp
  initSeq   : List RegOp
deriving Inhabited

/-- What R6 leaves OPEN, one field each; the T_* lower bounds are in nanoseconds (log 25). -/
structure Config where
  /-- HAS_RESET_PIN. -/
  hasResetPin     : Bool
  /-- EXTID_READ_WIDTH. -/
  extIdWidth      : ExtIdWidth
  /-- SETC_ADDR, SETC_DATA, SETC_WIDTH. -/
  setc            : SetcWrite
  /-- The Kind of the known-good ID 0x9341 (D15: some Kind). -/
  kindOf9341      : Kind
  /-- The Kind of the known-good ID 0x9338 (D15: some Kind). -/
  kindOf9338      : Kind
  /-- VARIANT_TABLE at every ID that D15 does not fix. -/
  otherIds        : Half → Option Kind
  /-- VARIANT(kind). -/
  variant         : Kind → VariantRecord
  /-- Whether FLOOD takes its strobe-only path for a colour of two equal bytes (R133, D28; log 26). -/
  strobeOnlyFlood : Bool
  /-- T_STROBE. -/
  tStrobe         : Nat
  /-- T_TURNAROUND. -/
  tTurnaround     : Nat
  /-- T_RESET_LOW beyond its 100 ms. -/
  tResetLowOver   : Nat
  /-- T_RESET_HIGH beyond its 100 ms. -/
  tResetHighOver  : Nat
  /-- T_SETC. -/
  tSetc           : Nat
  /-- The environment's answer to a sample, free, and free to depend on the whole trace so far (R57, D9; log 6). -/
  oracle          : List Event → Byte
deriving Inhabited

/-- The board the machine runs on. It has no body: nothing can be proved of any of its fields but
what their types say (log 5, log 6). -/
opaque Config.board : Config

end Sys2Proof
end

