-- ==== Sys2Proof/Machine/State.lean ====
section
/-! DEFINITION. The state of the block (spec/10_state.md R20), its observables and its host's side
(R27, R42, R174), and the reasons a request is refused (spec/60_exceptions.md R155). -/

namespace Sys2Proof.Machine

/-- PHASE (R25). -/
inductive Phase where
  | unconfigured
  | configured
deriving DecidableEq, Repr

/-- KIND (R26): no variant selected yet, "no variant" found, or one of the five Kinds. -/
inductive KindReg where
  | none
  | unsupported
  | known (k : Kind)
deriving DecidableEq, Repr

/-- BUF, the host's pixel buffer (R42): the cells that hold a value, as pairs of index and Pixel in one
canonical form (`Memory.wf`). An index that is not listed holds no value. Cells are whole Pixels, the
unit the spec addresses (R42, R46; log 4). -/
abbrev Memory := List (Nat × Pixel)

/-- One act of the host (R27, R42, R54): it issues an operation, or it changes its own buffer between
operations (log 3, log 4). -/
inductive HostAct where
  /-- Issue the operation with this descriptor. -/
  | issue (descriptor : List Word)
  /-- Give the BUF cell at this index a value. -/
  | bufStore (index : Word) (pixel : Pixel)
  /-- Take the value of the BUF cell at this index away. -/
  | bufRelease (index : Word)
deriving DecidableEq, Repr

/-- A fault. The block has none: "raises no exception" (R8), "There is no trap entry" (R158); so the type
has no constructor and no step faults (log 31). -/
inductive Fault where
deriving DecidableEq, Repr

/-- Why a request is refused: the closed list of R155, in its order. A refused request emits no event and
changes nothing (R154). Each is safe: the spec gives the request no meaning, so nothing is proved of it. -/
inductive Refusal where
  /-- Raised by `exec` for an instruction without a meaning; none is left. Safe. -/
  | notModelled (mnemonic : String)
  /-- Raised by the decoder: the words are no descriptor (R69). Safe. -/
  | badDescriptor
  /-- Raised by every operation but RESET: PHASE = Unconfigured (R25, R161). Safe. -/
  | notConfigured
  /-- Raised by every operation but RESET and SPAWN: KIND = Unsupported (R161). Safe. -/
  | unsupportedPanel
  /-- Raised by BEGIN and every BlitEngine operation: KIND = none (R130, R161). Safe. -/
  | noVariant
  /-- Raised by SPAWN: KIND is not none (R120). Safe. -/
  | alreadySpawned
  /-- Raised by every RegisterProtocol, BlitEngine operation, READ_ID and BEGIN: CS is not idle (R95, R110, R130). Safe. -/
  | busBusy
  /-- Raised by the same and by WRITE_BYTE, WR_STROBE and READ_BYTE: DIR is not what the operation needs (R85 to R87, R95). Safe. -/
  | wrongDirection
  /-- Raised by WR_STROBE: DOUT holds no value. The spec states this stop (R34, R85, R155; 93 U11; 95 V12). Safe. -/
  | doutUndefined
  /-- Raised by FLOOD: count = 0 (R132). Safe. -/
  | zeroCount
  /-- Raised by PUSH_COLORS and DRAW_BITMAP: base + n > 2^32 (R42). Safe. -/
  | bufferRange
  /-- Raised by PUSH_COLORS and DRAW_BITMAP: a needed BUF cell holds no value (R42). Safe. -/
  | bufferUndefined
deriving DecidableEq, Repr

/-- The state. S0 to S8 are the nine elements of R20; `Option`'s none is the spec's own "holds no value"
(R33, R34), not a missing reset value. -/
structure State where
  /-- S0 PHASE (R25). -/
  phase   : Phase
  /-- S1 DIR (R24). -/
  dir     : Option Dir
  /-- S2 CS (R21). -/
  cs      : Option Level
  /-- S3 CD (R21). -/
  cd      : Option Level
  /-- S4 WR (R21). -/
  wr      : Option Level
  /-- S5 RD (R21). -/
  rd      : Option Level
  /-- S6 RST (R21). -/
  rst     : Option Level
  /-- S7 DOUT (R22). -/
  dout    : Option Byte
  /-- S8 KIND (R26). -/
  kind    : KindReg
  /-- The whole trace, oldest event first (R9, R174; log 1). -/
  trace   : List Event
  /-- The result word of the last completed operation, none where it returns nothing (R68; log 2). -/
  result  : Option Word
  /-- BUF, the host's (R42). -/
  buf     : Memory
  /-- What the host does next, first act first (R27; log 3). -/
  pending : List HostAct
deriving DecidableEq, Repr

/-- How an operation ends. -/
abbrev Result := Host.Outcome State Fault Refusal

/-- Power-on (R33, R170): Unconfigured, no element holds a value, no event, nothing issued yet. -/
def State.reset : State where
  phase   := .unconfigured
  dir     := none
  cs      := none
  cd      := none
  wr      := none
  rd      := none
  rst     := none
  dout    := none
  kind    := .none
  trace   := []
  result  := none
  buf     := []
  pending := []

end Sys2Proof.Machine
end

