-- ==== Sys2Proof/Machine/Operands.lean ====
section
/-! DEFINITION. How operands are read (spec/30_encoding.md R66), split into bytes and assembled from bytes,
most significant byte first (spec/20_memory.md R44; spec/41_register_protocol.md R105). -/

namespace Sys2Proof.Machine

/-- `v[15:8]`. -/
def hiByte (v : Half) : Byte := v.extractLsb' 8 8

/-- `v[7:0]`. -/
def loByte (v : Half) : Byte := v.extractLsb' 0 8

/-- The two bytes of a 16-bit datum, in the order they are sent. -/
def bytesOf16 (d : Half) : List Byte := [hiByte d, loByte d]

/-- The three bytes of a 24-bit datum. -/
def bytesOf24 (d : BitVec 24) : List Byte := [d.extractLsb' 16 8, d.extractLsb' 8 8, d.extractLsb' 0 8]

/-- The four bytes of a 32-bit datum. -/
def bytesOf32 (d : Word) : List Byte :=
  [d.extractLsb' 24 8, d.extractLsb' 16 8, d.extractLsb' 8 8, d.extractLsb' 0 8]

/-- `acc <- 0; for each byte b in order: acc <- (acc << 8) | b`, on `n` bits (R105). -/
def assemble (n : Nat) (bs : List Byte) : BitVec n :=
  bs.foldl (fun acc b => (acc <<< 8) ||| b.setWidth n) 0

/-- `sint(field)`: a signed coordinate or extent (R66, D6; log 12). -/
abbrev sint (field : Half) : Int := field.toInt

/-- A coordinate as a 16-bit field of `window_seq`; every one the block makes is in 0 .. 32766 (R144). -/
def coordField (c : Int) : Half := BitVec.ofInt 16 c

/-- The kind code SPAWN returns (R123, D15); 0 is "no variant". -/
def kindCode : Kind → Word
  | .ili932x => 1
  | .ili9341 => 2
  | .hx8347g => 3
  | .hx8357x => 4
  | .st7789 => 5

end Sys2Proof.Machine
end

