-- ==== Sys2Proof/Machine/Ops.lean ====
section
/-! DEFINITION. The shared operations: BUF, the pins and their events, the bus strobes, and admission.
Taking an exception is not among them: the block has none (spec/60_exceptions.md R158). -/

namespace Sys2Proof.Machine

/-! ### BUF (spec/20_memory.md R42) -/

/-- The canonical form from index `lo` up: indices strictly rising, all of them below 2^32. -/
def Memory.wfFrom (lo : Nat) : Memory → Bool
  | [] => true
  | (a, _) :: rest => decide (lo ≤ a) && decide (a < 2 ^ 32) && Memory.wfFrom (a + 1) rest

/-- The canonical form of BUF. An unlisted index reads as no value, so no listed cell reads as that. -/
def Memory.wf (m : Memory) : Bool := Memory.wfFrom 0 m

/-- `MemRead(BUF, a, 1)`: the Pixel at `a`, or none where the cell holds no value (R42). -/
def Memory.read : Memory → Nat → Option Pixel
  | [], _ => none
  | (b, p) :: rest, a => if a = b then some p else Memory.read rest a

/-- The host gives the cell `a` the value `p`. -/
def Memory.write : Memory → Nat → Pixel → Memory
  | [], a, p => [(a, p)]
  | (b, q) :: rest, a, p =>
    if a < b then (a, p) :: (b, q) :: rest
    else if a = b then (a, p) :: rest
    else (b, q) :: Memory.write rest a p

/-- The host takes the value of the cell `a` away. -/
def Memory.erase : Memory → Nat → Memory
  | [], _ => []
  | (b, q) :: rest, a => if a = b then rest else (b, q) :: Memory.erase rest a

/-- The `n` Pixels from `base` up, in rising order, or none where one of the cells holds no value. -/
def Memory.readMany (m : Memory) (base : Nat) : Nat → Option (List Pixel)
  | 0 => some []
  | n + 1 =>
    match Memory.read m base with
    | none => none
    | some p =>
      match Memory.readMany m (base + 1) n with
      | none => none
      | some ps => some (p :: ps)

/-! ### Levels (R6, R21). Those of CD are the spec's decision D1 (log 9). -/

abbrev csActive : Level := 0
abbrev csIdle : Level := 1
abbrev cdCommand : Level := 0
abbrev cdData : Level := 1
/-- The level of WR and RD during a pulse: "low-then-high" (R85). -/
abbrev strobeLow : Level := 0
/-- The idle level of WR and RD. -/
abbrev strobeIdle : Level := 1

/-! ### Pins and events (R8, R9) -/

/-- `emit e`: append `e` to the trace (R8). -/
def emit (e : Event) (s : State) : State := { s with trace := s.trace ++ [e] }

def driveCs (b : Level) (s : State) : State := emit (.cs b) { s with cs := some b }
def driveCd (b : Level) (s : State) : State := emit (.cd b) { s with cd := some b }
def driveWr (b : Level) (s : State) : State := emit (.wr b) { s with wr := some b }
def driveRd (b : Level) (s : State) : State := emit (.rd b) { s with rd := some b }
def driveRst (b : Level) (s : State) : State := emit (.rst b) { s with rst := some b }

/-- Switch the eight data pins together (R88, R89). -/
def setDir (d : Dir) (s : State) : State := emit (.dir d) { s with dir := some d }

/-- Load the output latch (R22). -/
def loadDout (v : Byte) (s : State) : State := emit (.dout v) { s with dout := some v }

/-- A busy-wait: one event and no effect on state (R162). -/
def delay (k : DelayKind) (s : State) : State := emit (.delay k) s

/-! ### Strobes (R11) -/

/-- `ws()`: a write strobe alone (R85). -/
def strobeWrite (s : State) : State :=
  s |> driveWr strobeLow |> delay .strobe |> driveWr strobeIdle

/-- `wb(v)`: load, then strobe (R86). -/
def sendByte (v : Byte) (s : State) : State := s |> loadDout v |> strobeWrite

/-- RD falls and settles, before the sample (R87, D2). -/
def lowerRead (s : State) : State := s |> driveRd strobeLow |> delay .strobe

/-- `PanelRead()`: the free answer of the environment at this point of the trace (R57). -/
def panelRead (cfg : Config) (s : State) : Byte := cfg.oracle s.trace

/-- The sample, then RD rises (R87, D2). -/
def finishRead (v : Byte) (s : State) : State := s |> emit (.sample v) |> driveRd strobeIdle

/-- `rb()`: the byte read and the state after it (R87). -/
def recvByte (cfg : Config) (s : State) : Byte × State :=
  let low := lowerRead s
  let v := panelRead cfg low
  (v, finishRead v low)

/-- `n` reads, each completed before the next starts (R105). -/
def recvBytes (cfg : Config) : Nat → State → List Byte × State
  | 0, s => ([], s)
  | n + 1, s =>
    let r := recvByte cfg s
    let rest := recvBytes cfg n r.2
    (r.1 :: rest.1, rest.2)

/-- `wb` of each byte in turn. -/
def sendBytes (bs : List Byte) (s : State) : State := bs.foldl (fun s b => sendByte b s) s

/-- `f` done `n` times. -/
def repeatTimes : Nat → (State → State) → State → State
  | 0, _, s => s
  | n + 1, f, s => repeatTimes n f (f s)

/-! ### Result word (R68) -/

def returns (v : Word) (s : State) : State := { s with result := some v }

/-- Nothing returned yet by the operation that starts here. -/
def clearResult (s : State) : State := { s with result := none }

/-! ### Admission (spec/60_exceptions.md R154, R155, R161) -/

/-- A requirement: none where it is met, else the reason to refuse. -/
abbrev Requirement := State → Option Refusal

def needConfigured : Requirement := fun s =>
  if s.phase = .configured then none else some .notConfigured

def needSupported : Requirement := fun s =>
  if s.kind = .unsupported then some .unsupportedPanel else none

def needUnspawned : Requirement := fun s =>
  if s.kind = .none then none else some .alreadySpawned

def needCsIdle : Requirement := fun s =>
  if s.cs = some csIdle then none else some .busBusy

def needDir (d : Dir) : Requirement := fun s =>
  if s.dir = some d then none else some .wrongDirection

def needDout : Requirement := fun s =>
  if s.dout = none then some .doutUndefined else none

/-- Refuse with the first requirement that is not met, before any event; else go on (R154). -/
def admitting (reqs : List Requirement) (s : State) (k : State → Result) : Result :=
  match reqs with
  | [] => k s
  | r :: rest =>
    match r s with
    | some why => .refused why
    | none => admitting rest s k

/-- An operation whose requirements are met runs wholly, from a cleared result port (R158, R68). -/
def perform (reqs : List Requirement) (body : State → State) (s : State) : Result :=
  admitting reqs s fun s => .next (body (clearResult s))

/-- R80: the BusSignal family. -/
def busSignalNeeds : List Requirement := [needConfigured, needSupported]

/-- R95, R110: the RegisterProtocol family and READ_ID. -/
def registerNeeds : List Requirement := [needConfigured, needSupported, needCsIdle, needDir .write]

/-- The variant record of KIND, or the refusal of R130 where KIND is no Kind. -/
def withVariant (cfg : Config) (s : State) (k : VariantRecord → Result) : Result :=
  match s.kind with
  | .unsupported => .refused .unsupportedPanel
  | .none => .refused .noVariant
  | .known κ => k (cfg.variant κ)

/-- R130, and R110 with R121 for BEGIN: admission of the operations that need a variant. -/
def performVariant (cfg : Config) (k : VariantRecord → State → Result) (s : State) : Result :=
  admitting [needConfigured] s fun s =>
    withVariant cfg s fun v =>
      admitting [needCsIdle, needDir .write] s fun s => k v (clearResult s)

/-- The `n` BUF cells from `base` up, or the refusal of R42 where the range passes 2^32 or a cell holds
no value. -/
def withCells (base n : Nat) (s : State) (k : List Pixel → Result) : Result :=
  if base + n ≤ 2 ^ 32 then
    match Memory.readMany s.buf base n with
    | some ps => k ps
    | none => .refused .bufferUndefined
  else .refused .bufferRange

end Sys2Proof.Machine
end

