-- ==== Sys2Proof/Machine/RegisterProtocol.lean ====
section
/-! DEFINITION. The eight RegisterProtocol operations (spec/41_register_protocol.md R95 to R106) and the
bodies that other operations run by `call` (spec/00_scope.md R8). -/

namespace Sys2Proof.Machine

/-- WRITE_COMMAND's body (R96): chip-select, command mode, high byte, low byte. -/
def commandBody (cmd : Half) (s : State) : State :=
  s |> driveCs csActive |> driveCd cdCommand |> sendByte (hiByte cmd) |> sendByte (loByte cmd)

/-- The body of a register write of the given data bytes (R61, R97 to R100). -/
def writeRegBody (addr : Half) (data : List Byte) (s : State) : State :=
  s |> commandBody addr |> driveCd cdData |> sendBytes data |> driveCs csIdle

/-- WRITE_REG_PAIR's body (R101): two whole frames, the high half first (D10; log 13). -/
def writePairBody (addrHigh addrLow : Half) (data : Half) (s : State) : State :=
  s |> writeRegBody addrHigh [hiByte data] |> writeRegBody addrLow [loByte data]

/-- A read frame up to its first read strobe (R62, R102). -/
def openRead (addr : Half) (s : State) : State :=
  s |> commandBody addr |> setDir .read |> driveCd cdData |> delay .turnaround

/-- A read frame's end: chip-select idle, then the pins are taken back (R59, R62). -/
def closeRead (s : State) : State := s |> driveCs csIdle |> setDir .write

/-- The bytes of a register read of `n` bytes, and the state after its frame (R102, R103). -/
def readRegBody (cfg : Config) (addr : Half) (n : Nat) (s : State) : List Byte × State :=
  let r := recvBytes cfg n (openRead addr s)
  (r.1, closeRead r.2)

/-- READ_REG16's value and the state after it (R102). -/
def readReg16Body (cfg : Config) (addr : Half) (s : State) : Half × State :=
  let r := readRegBody cfg addr 2 s
  (assemble 16 r.1, r.2)

/-- READ_REG32's value and the state after it (R103). -/
def readReg32Body (cfg : Config) (addr : Half) (s : State) : Word × State :=
  let r := readRegBody cfg addr 4 s
  (assemble 32 r.1, r.2)

/-- READ_REG16's whole effect: the value is its result word (R68). -/
def readReg16Returning (cfg : Config) (addr : Half) (s : State) : State :=
  let r := readReg16Body cfg addr s
  returns (r.1.setWidth 32) r.2

/-- READ_REG32's whole effect. -/
def readReg32Returning (cfg : Config) (addr : Half) (s : State) : State :=
  let r := readReg32Body cfg addr s
  returns r.1 r.2

/-- WRITE_COMMAND (R96): it leaves CS asserted. -/
def execWriteCommand (cmd : Half) (s : State) : Result := perform registerNeeds (commandBody cmd) s

/-- WRITE_REG8 (R97). -/
def execWriteReg8 (addr : Half) (data : Byte) (s : State) : Result :=
  perform registerNeeds (writeRegBody addr [data]) s

/-- WRITE_REG16 (R98). -/
def execWriteReg16 (addr : Half) (data : Half) (s : State) : Result :=
  perform registerNeeds (writeRegBody addr (bytesOf16 data)) s

/-- WRITE_REG24 (R99). -/
def execWriteReg24 (addr : Half) (data : BitVec 24) (s : State) : Result :=
  perform registerNeeds (writeRegBody addr (bytesOf24 data)) s

/-- WRITE_REG32 (R100). -/
def execWriteReg32 (addr : Half) (data : Word) (s : State) : Result :=
  perform registerNeeds (writeRegBody addr (bytesOf32 data)) s

/-- WRITE_REG_PAIR (R101). -/
def execWriteRegPair (addrHigh addrLow : Half) (data : Half) (s : State) : Result :=
  perform registerNeeds (writePairBody addrHigh addrLow data) s

/-- READ_REG16 (R102). -/
def execReadReg16 (addr : Half) (s : State) : Result :=
  perform registerNeeds (readReg16Returning Config.board addr) s

/-- READ_REG32 (R103). -/
def execReadReg32 (addr : Half) (s : State) : Result :=
  perform registerNeeds (readReg32Returning Config.board addr) s

end Sys2Proof.Machine
end

