-- ==== Sys2Proof/Machine/Detector.lean ====
section
/-! DEFINITION. RESET, READ_ID, SPAWN and BEGIN (spec/42_detector.md R110 to R123). -/

namespace Sys2Proof.Machine

/-- The reset line's pulse, where one is wired (R111): high, low at least 100 ms, high at least 100 ms. -/
def pulseReset (s : State) : State :=
  s |> driveRst 1 |> driveRst 0 |> delay .resetLow |> driveRst 1 |> delay .resetHigh

/-- The control lines idle in the order of D5, then the bus in write mode (R111; log 11). -/
def idlePins (s : State) : State :=
  s |> emit .cfg |> driveCs csIdle |> driveCd 1 |> driveWr strobeIdle |> driveRd strobeIdle |> setDir .write

/-- RESET's body (R111): DOUT and KIND are not written. -/
def resetBody (cfg : Config) (s : State) : State :=
  let t := if cfg.hasResetPin then pulseReset (idlePins s) else idlePins s
  { t with phase := .configured }

/-- One of the two extended-ID reads of step 1, at its configured width (R114, D11). -/
def readExtId (cfg : Config) (addr : Half) (s : State) : Half × State :=
  match cfg.extIdWidth with
  | .bits16 => readReg16Body cfg addr s
  | .bits32 =>
    let r := readReg32Body cfg addr s
    (r.1.setWidth 16, r.2)

/-- Step 1 (R114): three reads, always, in this order. The first component is `ext`, the combined
value, which nothing uses; the second is `st`. -/
def detectStep1 (cfg : Config) (s : State) : Word × Word × State :=
  let a := readExtId cfg 0x00DB#16 s
  let b := readExtId cfg 0x00DA#16 a.2
  let st := readReg32Body cfg 0x0004#16 b.2
  (a.1 ++ b.1, st.1, st.2)

/-- The set-extended-command write of step 3 (R116, D12). -/
def setcBody (cfg : Config) (s : State) : State :=
  match cfg.setc with
  | .w8 addr data => writeRegBody addr [data] s
  | .w16 addr data => writeRegBody addr (bytesOf16 data) s
  | .w24 addr data => writeRegBody addr (bytesOf24 data) s
  | .w32 addr data => writeRegBody addr (bytesOf32 data) s

/-- Step 3 (R116): write, wait, and read the confirmation register; whether it confirms. -/
def detectStep3 (cfg : Config) (s : State) : Bool × State :=
  let c := readReg32Body cfg 0x00D0#16 (s |> setcBody cfg |> delay .setc)
  (c.1 = 0x00990000#32, c.2)

/-- Steps 4 and 5 (R117, R118): the low half of 0x00D3 where it is one of the two known-good IDs (D13),
else the legacy 16-bit register 0x0000 as it is. -/
def detectSteps45 (cfg : Config) (s : State) : Half × State :=
  let d := readReg32Body cfg 0x00D3#16 s
  let id : Half := d.1.extractLsb' 0 16
  if id = 0x9341#16 ∨ id = 0x9338#16 then (id, d.2) else readReg16Body cfg 0x0000#16 d.2

/-- READ_ID's ControllerID and the state after it (R113, R115, R116): the steps in priority order. -/
def readIdBody (cfg : Config) (s : State) : Half × State :=
  let one := detectStep1 cfg s
  let st := one.2.1
  if st = 0xFF858552#32 then (0x7789#16, one.2.2)
  else if st = 0x00008000#32 then
    let three := detectStep3 cfg one.2.2
    if three.1 then (0x8357#16, three.2) else detectSteps45 cfg three.2
  else detectSteps45 cfg one.2.2

/-- READ_ID's whole effect: the ControllerID is its result word and KIND is not written (R113, R68). -/
def readIdReturning (cfg : Config) (s : State) : State :=
  let r := readIdBody cfg s
  returns (r.1.setWidth 32) r.2

/-- VARIANT_TABLE (R120, D15): three points are fixed, two more are some Kind, the rest is OPEN. -/
def variantTable (cfg : Config) (id : Half) : Option Kind :=
  if id = 0x7789#16 then some .st7789
  else if id = 0x8357#16 then some .hx8357x
  else if id = 0x0000#16 then none
  else if id = 0x9341#16 then some cfg.kindOf9341
  else if id = 0x9338#16 then some cfg.kindOf9338
  else cfg.otherIds id

/-- SPAWN's body (R120): KIND and the kind code; no event. -/
def spawnBody (cfg : Config) (id : Half) (s : State) : State :=
  match variantTable cfg id with
  | none => returns 0 { s with kind := .unsupported }
  | some k => returns (kindCode k) { s with kind := .known k }

/-- Playing a RegOp (R122). -/
def playOp (op : RegOp) (s : State) : State :=
  match op with
  | .w8 addr data => writeRegBody addr [data] s
  | .w16 addr data => writeRegBody addr (bytesOf16 data) s
  | .w24 addr data => writeRegBody addr (bytesOf24 data) s
  | .w32 addr data => writeRegBody addr (bytesOf32 data) s
  | .wp addrHigh addrLow data => writePairBody addrHigh addrLow data s
  | .wait ms => delay (.init ms) s

/-- Playing a sequence, in order (R121, R131). -/
def playOps (ops : List RegOp) (s : State) : State := ops.foldl (fun s op => playOp op s) s

/-- BEGIN on a given configuration (R121). -/
def beginOn (cfg : Config) (s : State) : Result :=
  performVariant cfg (fun v s => .next (playOps v.initSeq s)) s

/-- RESET (R111): admitted in every state (R110). -/
def execReset (s : State) : Result := perform [] (resetBody Config.board) s

/-- READ_ID (R113). -/
def execReadId (s : State) : Result := perform registerNeeds (readIdReturning Config.board) s

/-- SPAWN (R120): it touches no pin and needs none (R110). -/
def execSpawn (id : Half) (s : State) : Result :=
  perform [needConfigured, needUnspawned] (spawnBody Config.board id) s

/-- BEGIN (R121). -/
def execBegin (s : State) : Result := beginOn Config.board s

end Sys2Proof.Machine
end

