-- ==== Sys2Proof/Machine/Flags.lean ====
section
/-! DEFINITION. The block keeps no flag (spec/10_state.md R28). Here are the predicates it computes inside
operations and never stores: SAMEBYTE and the clipping tests (spec/43_blit.md R133, R135, R136, R141),
all on exact integers (R145, D7; log 12). -/

namespace Sys2Proof.Machine

/-- SAMEBYTE: both bytes of the colour are equal (R28, R133). -/
def sameByte (color : Pixel) : Bool := hiByte color = loByte color

/-- DRAW_PIXEL's bounds test: the pixel lies in the panel (R136). -/
def pixelInside (x y : Int) (v : VariantRecord) : Bool :=
  0 ≤ x && 0 ≤ y && x < v.width.size && y < v.height.size

/-- DRAW_BITMAP's fast-path test: the whole rectangle lies in the panel (R135). -/
def rectInside (x y w h : Int) (v : VariantRecord) : Bool :=
  0 ≤ x && 0 ≤ y && x + w ≤ v.width.size && y + h ≤ v.height.size

/-- `clip(a, n, L)` (R141, D23): the part of [a, a+n-1] inside [0, L-1] as an inclusive pair, or none. -/
def clip (a n limit : Int) : Option (Int × Int) :=
  if n ≤ 0 then none
  else if a ≥ limit ∨ a + n - 1 < 0 then none
  else some (max a 0, min (a + n - 1) (limit - 1))

/-- `blocks = n div 64` of R146. -/
def floodBlocks (n : Nat) : Nat := n / 64

/-- `rem = n mod 64` of R146. -/
def floodRemainder (n : Nat) : Nat := n % 64

end Sys2Proof.Machine
end

