-- ==== Sys2Proof/Machine/Blit.lean ====
section
/-! DEFINITION. The eight BlitEngine operations (spec/43_blit.md R130 to R147). -/

namespace Sys2Proof.Machine

/-- SET_ADDR_WINDOW's body (R131): the variant's sequence, its operands unchecked (D25; log 24). -/
def windowBody (v : VariantRecord) (x1 y1 x2 y2 : Half) (s : State) : State :=
  playOps (v.windowSeq x1 y1 x2 y2) s

/-- SET_ADDR_WINDOW by integer coordinates the block computed (R144). -/
def setWindow (v : VariantRecord) (x1 y1 x2 y2 : Int) (s : State) : State :=
  windowBody v (coordField x1) (coordField y1) (coordField x2) (coordField y2) s

/-- One pixel: two data bytes, the high one first (R45). -/
def sendPixel (p : Pixel) (s : State) : State := s |> sendByte (hiByte p) |> sendByte (loByte p)

/-- Two bare strobes: one pixel whose bytes both equal DOUT (R133). -/
def strobePixel (s : State) : State := s |> strobeWrite |> strobeWrite

/-- FLOOD's frame (R132), its pixels after the first sent by `rest`. -/
def floodFrame (gw : Half) (color : Pixel) (rest : State → State) (s : State) : State :=
  s |> commandBody gw |> driveCd cdData |> sendPixel color |> rest |> driveCs csIdle

/-- FLOOD's general path (R132). -/
def floodByBytes (gw : Half) (color : Pixel) (count : Nat) (s : State) : State :=
  floodFrame gw color (repeatTimes (count - 1) (sendPixel color)) s

/-- FLOOD's strobe-only path (R133). -/
def floodByStrobes (gw : Half) (color : Pixel) (count : Nat) (s : State) : State :=
  floodFrame gw color (repeatTimes (count - 1) strobePixel) s

/-- The strobe-only path unrolled in batches of 64 pixels with a remainder loop (R146). -/
def floodByBatches (gw : Half) (color : Pixel) (count : Nat) (s : State) : State :=
  floodFrame gw color
    (fun s => s |> repeatTimes (floodBlocks (count - 1)) (repeatTimes 64 strobePixel)
      |> repeatTimes (floodRemainder (count - 1)) strobePixel) s

/-- FLOOD's body: the path the implementation takes (R132, R133, D28; log 26). -/
def floodBody (cfg : Config) (v : VariantRecord) (color : Pixel) (count : Nat) (s : State) : State :=
  if cfg.strobeOnlyFlood && sameByte color then floodByStrobes v.gramWrite color count s
  else floodByBytes v.gramWrite color count s

/-- The Pixels in order (R134). -/
def sendPixels (ps : List Pixel) (s : State) : State := ps.foldl (fun s p => sendPixel p s) s

/-- PUSH_COLORS' body (R134): the preamble on a first burst only. -/
def pushBody (v : VariantRecord) (first : Bool) (ps : List Pixel) (s : State) : State :=
  (if first then commandBody v.gramWrite s else driveCs csActive s)
    |> driveCd cdData |> sendPixels ps |> driveCs csIdle

/-- DRAW_PIXEL's body (R136, D18; log 18): a one-pixel window and a one-pixel flood, or nothing. -/
def pixelBody (cfg : Config) (v : VariantRecord) (color : Pixel) (x y : Int) (s : State) : State :=
  if pixelInside x y v then s |> setWindow v x y x y |> floodBody cfg v color 1 else s

/-- One row of DRAW_BITMAP's slow path, from column `x` on (R135). -/
def bitmapRow (cfg : Config) (v : VariantRecord) (x y : Int) : List Pixel → State → State
  | [], s => s
  | p :: ps, s => bitmapRow cfg v (x + 1) y ps (pixelBody cfg v p x y s)

/-- DRAW_BITMAP's slow path (R135, D19; log 19): `h` rows of `w` pixels each, from row `y` on. -/
def bitmapRows (cfg : Config) (v : VariantRecord) (x : Int) (w : Nat) : Nat → Int → List Pixel → State → State
  | 0, _, _, s => s
  | h + 1, y, ps, s => bitmapRows cfg v x w h (y + 1) (ps.drop w) (bitmapRow cfg v x y (ps.take w) s)

/-- DRAW_BITMAP's body on the Pixels it reads (R135): one window and one burst where the whole rectangle
is inside, else pixel by pixel. -/
def bitmapBody (cfg : Config) (v : VariantRecord) (x y w h : Int) (ps : List Pixel) (s : State) : State :=
  if rectInside x y w h v then
    s |> setWindow v x y (x + w - 1) (y + h - 1) |> pushBody v true ps
  else bitmapRows cfg v x w.toNat h.toNat y ps s

/-- FILL_RECT's body (R138): clip, one window, one flood of its area; or nothing. -/
def fillBody (cfg : Config) (v : VariantRecord) (color : Pixel) (x y w h : Int) (s : State) : State :=
  match clip x w v.width.size, clip y h v.height.size with
  | some (x1, x2), some (y1, y2) =>
    s |> setWindow v x1 y1 x2 y2
      |> floodBody cfg v color ((x2 - x1 + 1) * (y2 - y1 + 1)).toNat
  | _, _ => s

/-- DRAW_FAST_HLINE's body (R139). -/
def hlineBody (cfg : Config) (v : VariantRecord) (color : Pixel) (x y len : Int) (s : State) : State :=
  match clip x len v.width.size, clip y 1 v.height.size with
  | some (x1, x2), some _ =>
    s |> setWindow v x1 y x2 y |> floodBody cfg v color (x2 - x1 + 1).toNat
  | _, _ => s

/-- DRAW_FAST_VLINE's body (R140). -/
def vlineBody (cfg : Config) (v : VariantRecord) (color : Pixel) (x y len : Int) (s : State) : State :=
  match clip x 1 v.width.size, clip y len v.height.size with
  | some _, some (y1, y2) =>
    s |> setWindow v x y1 x y2 |> floodBody cfg v color (y2 - y1 + 1).toNat
  | _, _ => s

/-! ### The operations on a given configuration -/

def setAddrWindowOn (cfg : Config) (x1 y1 x2 y2 : Half) (s : State) : Result :=
  performVariant cfg (fun v s => .next (windowBody v x1 y1 x2 y2 s)) s

/-- A count of 0 is refused, never an empty fill (R132; 93 U1, G6). -/
def floodOn (cfg : Config) (color : Pixel) (count : Word) (s : State) : Result :=
  performVariant cfg
    (fun v s => if count = 0 then .refused .zeroCount else .next (floodBody cfg v color count.toNat s)) s

def pushColorsOn (cfg : Config) (first : Bool) (count base : Word) (s : State) : Result :=
  performVariant cfg
    (fun v s => withCells base.toNat count.toNat s fun ps => .next (pushBody v first ps s)) s

/-- An empty bitmap reads no cell and is no-op (R135, D19). -/
def drawBitmapOn (cfg : Config) (x y w h : Half) (base : Word) (s : State) : Result :=
  performVariant cfg
    (fun v s =>
      if sint w ≤ 0 ∨ sint h ≤ 0 then .next s
      else withCells base.toNat (sint w * sint h).toNat s fun ps =>
        .next (bitmapBody cfg v (sint x) (sint y) (sint w) (sint h) ps s)) s

def drawPixelOn (cfg : Config) (color : Pixel) (x y : Half) (s : State) : Result :=
  performVariant cfg (fun v s => .next (pixelBody cfg v color (sint x) (sint y) s)) s

def fillRectOn (cfg : Config) (color : Pixel) (x y w h : Half) (s : State) : Result :=
  performVariant cfg (fun v s => .next (fillBody cfg v color (sint x) (sint y) (sint w) (sint h) s)) s

def hlineOn (cfg : Config) (color : Pixel) (x y len : Half) (s : State) : Result :=
  performVariant cfg (fun v s => .next (hlineBody cfg v color (sint x) (sint y) (sint len) s)) s

def vlineOn (cfg : Config) (color : Pixel) (x y len : Half) (s : State) : Result :=
  performVariant cfg (fun v s => .next (vlineBody cfg v color (sint x) (sint y) (sint len) s)) s

/-! ### The meanings -/

/-- SET_ADDR_WINDOW (R131). -/
def execSetAddrWindow (x1 y1 x2 y2 : Half) (s : State) : Result := setAddrWindowOn Config.board x1 y1 x2 y2 s

/-- FLOOD (R132, R133). -/
def execFlood (color : Pixel) (count : Word) (s : State) : Result := floodOn Config.board color count s

/-- PUSH_COLORS (R134). -/
def execPushColors (first : Bool) (count base : Word) (s : State) : Result :=
  pushColorsOn Config.board first count base s

/-- DRAW_BITMAP (R135). -/
def execDrawBitmap (x y w h : Half) (base : Word) (s : State) : Result :=
  drawBitmapOn Config.board x y w h base s

/-- DRAW_PIXEL (R136). -/
def execDrawPixel (color : Pixel) (x y : Half) (s : State) : Result := drawPixelOn Config.board color x y s

/-- FILL_RECT (R138). -/
def execFillRect (color : Pixel) (x y w h : Half) (s : State) : Result :=
  fillRectOn Config.board color x y w h s

/-- DRAW_FAST_HLINE (R139). -/
def execDrawFastHLine (color : Pixel) (x y len : Half) (s : State) : Result :=
  hlineOn Config.board color x y len s

/-- DRAW_FAST_VLINE (R140). -/
def execDrawFastVLine (color : Pixel) (x y len : Half) (s : State) : Result :=
  vlineOn Config.board color x y len s

end Sys2Proof.Machine
end

