-- ==== Sys2Proof/Machine/BusSignal.lean ====
section
/-! DEFINITION. The nine BusSignal operations (spec/40_bus_signal.md R80 to R91). -/

namespace Sys2Proof.Machine

/-- CS_ASSERT (R81). -/
def execCsAssert (s : State) : Result := perform busSignalNeeds (driveCs csActive) s

/-- CS_IDLE (R82). -/
def execCsIdle (s : State) : Result := perform busSignalNeeds (driveCs csIdle) s

/-- CD_COMMAND (R83). -/
def execCdCommand (s : State) : Result := perform busSignalNeeds (driveCd cdCommand) s

/-- CD_DATA (R84). -/
def execCdData (s : State) : Result := perform busSignalNeeds (driveCd cdData) s

/-- WR_STROBE (R85): DOUT is not touched. -/
def execWrStrobe (s : State) : Result :=
  perform (busSignalNeeds ++ [needDir .write, needDout]) strobeWrite s

/-- WRITE_BYTE v (R86). -/
def execWriteByte (v : Byte) (s : State) : Result :=
  perform (busSignalNeeds ++ [needDir .write]) (sendByte v) s

/-- READ_BYTE's effect: the byte is its result word (R87, R68). -/
def readByteBody (cfg : Config) (s : State) : State :=
  let r := recvByte cfg s
  returns (r.1.setWidth 32) r.2

/-- READ_BYTE (R87). -/
def execReadByte (s : State) : Result :=
  perform (busSignalNeeds ++ [needDir .read]) (readByteBody Config.board) s

/-- SET_DIR_WRITE (R88). -/
def execSetDirWrite (s : State) : Result := perform busSignalNeeds (setDir .write) s

/-- SET_DIR_READ (R89). -/
def execSetDirRead (s : State) : Result := perform busSignalNeeds (setDir .read) s

end Sys2Proof.Machine
end

