-- ==== Sys2Proof/Machine/Dispatch.lean ====
section
/-! DEFINITION. One arm per operation of spec/30_encoding.md R67. -/

namespace Sys2Proof.Machine

def exec (i : Instr) (s : State) : Host.Outcome State Fault Refusal :=
  match i with
  | .csAssert => Sys2Proof.Machine.execCsAssert s
  | .csIdle => Sys2Proof.Machine.execCsIdle s
  | .cdCommand => Sys2Proof.Machine.execCdCommand s
  | .cdData => Sys2Proof.Machine.execCdData s
  | .wrStrobe => Sys2Proof.Machine.execWrStrobe s
  | .writeByte v => Sys2Proof.Machine.execWriteByte v s
  | .readByte => Sys2Proof.Machine.execReadByte s
  | .setDirWrite => Sys2Proof.Machine.execSetDirWrite s
  | .setDirRead => Sys2Proof.Machine.execSetDirRead s
  | .writeCommand cmd => Sys2Proof.Machine.execWriteCommand cmd s
  | .writeReg8 addr data => Sys2Proof.Machine.execWriteReg8 addr data s
  | .writeReg16 addr data => Sys2Proof.Machine.execWriteReg16 addr data s
  | .writeReg24 addr data => Sys2Proof.Machine.execWriteReg24 addr data s
  | .writeReg32 addr data => Sys2Proof.Machine.execWriteReg32 addr data s
  | .writeRegPair addrHigh addrLow data => Sys2Proof.Machine.execWriteRegPair addrHigh addrLow data s
  | .readReg16 addr => Sys2Proof.Machine.execReadReg16 addr s
  | .readReg32 addr => Sys2Proof.Machine.execReadReg32 addr s
  | .reset => Sys2Proof.Machine.execReset s
  | .readId => Sys2Proof.Machine.execReadId s
  | .spawn id => Sys2Proof.Machine.execSpawn id s
  | .beginInit => Sys2Proof.Machine.execBegin s
  | .setAddrWindow x1 y1 x2 y2 => Sys2Proof.Machine.execSetAddrWindow x1 y1 x2 y2 s
  | .flood color count => Sys2Proof.Machine.execFlood color count s
  | .pushColors first count base => Sys2Proof.Machine.execPushColors first count base s
  | .drawBitmap x y w h base => Sys2Proof.Machine.execDrawBitmap x y w h base s
  | .drawPixel color x y => Sys2Proof.Machine.execDrawPixel color x y s
  | .fillRect color x y w h => Sys2Proof.Machine.execFillRect color x y w h s
  | .drawFastHLine color x y len => Sys2Proof.Machine.execDrawFastHLine color x y len s
  | .drawFastVLine color x y len => Sys2Proof.Machine.execDrawFastVLine color x y len s

end Sys2Proof.Machine
end

