-- ==== Sys2Proof/Machine/Issue.lean ====
section
/-! DEFINITION. How the host reaches the block: one act at a time (spec/10_state.md R27), and a whole run of
acts with its mark (spec/60_exceptions.md R154, spec/70_reset_and_hazards.md R174). -/

namespace Sys2Proof.Machine

/-- Hand a descriptor to the block: it is decoded completely before any event (R64), and one that does not
decode is refused (R69). -/
def issue (descriptor : List Word) (s : State) : Result :=
  match decode descriptor with
  | .error _ => .refused .badDescriptor
  | .ok i => exec i s

/-- One act of the host: an operation, run to completion (R27), or a change of its own buffer, which happens
between operations (R54, R181). -/
def takeAct (a : HostAct) (s : State) : Result :=
  match a with
  | .issue descriptor => issue descriptor s
  | .bufStore index pixel => .next { s with buf := Memory.write s.buf index.toNat pixel }
  | .bufRelease index => .next { s with buf := Memory.erase s.buf index.toNat }

/-- A run (R174): the state it has reached and its mark, set by the first refusal and never cleared (R154). -/
structure Run where
  state   : State
  refused : Bool
deriving DecidableEq, Repr

/-- A run before its first operation: power-on (R174). -/
def runFromPowerOn : Run := ⟨State.reset, false⟩

/-- A run goes on after a refusal, from the state it was in, with the mark set (R154; 95 P6). -/
def runAct (r : Run) (a : HostAct) : Run :=
  match takeAct a r.state with
  | .next s => { r with state := s }
  | .refused _ => { r with refused := true }
  | .fault f => nomatch f

/-- The acts of a run, in order. -/
def runActs (r : Run) (acts : List HostAct) : Run := acts.foldl runAct r

/-- A run is clean when nothing was refused and no frame is left open (R174). -/
def runClean (r : Run) : Bool :=
  !r.refused && decide (r.state.cs = some csIdle) && decide (r.state.dir = some .write)

end Sys2Proof.Machine
end

