-- ==== Sys2Proof/Machine/Step.lean ====
section
/-! DEFINITION. One step: the host's next act (spec/10_state.md R27). -/

namespace Sys2Proof.Machine

/-- The block takes the first act that waits; with none it idles with its pins held (R27, R166; log 3). -/
def step (s : State) : Host.Outcome State Fault Refusal :=
  match s.pending with
  | [] => .next s
  | a :: rest => takeAct a { s with pending := rest }

/-- The state in which the host's next act is to issue the descriptor of this number, in the place of the
act that was next (log 3, log 32). -/
def State.withFetchWord (s : State) (nbits w : Nat) : State :=
  { s with pending := .issue (tableWords nbits w) :: s.pending.drop 1 }

end Sys2Proof.Machine
end

