-- ==== Sys2Proof/Machine/Bytes.lean ====
section
/-! DEFINITION. The byte-level abstraction `bytes(trace)` (spec/00_scope.md R10, D3): what a bus sees of a
trace. No operation reads it; claims are stated with it. -/

namespace Sys2Proof.Machine

/-- One item of `bytes(trace)`. The level and the value are those the scan last saw, none where it has
seen none (log 28). -/
inductive BusItem where
  /-- `W(cd, v)`: a byte written. -/
  | w (cd : Option Level) (v : Option Byte)
  /-- `Rd(cd, v)`: a byte read. -/
  | rd (cd : Option Level) (v : Byte)
  /-- `END`, the frame delimiter. -/
  | frameEnd
deriving DecidableEq, Repr

/-- Where the scan stands in a write strobe: no pulse, WR low, or WR low and DELAY(strobe) seen. -/
inductive Pulse where
  | off
  | low
  | held
deriving DecidableEq, Repr

/-- What the scan tracks. -/
structure BusView where
  cs    : Option Level
  cd    : Option Level
  dir   : Option Dir
  dout  : Option Byte
  pulse : Pulse
deriving DecidableEq, Repr

/-- Nothing seen yet: the scan of a whole trace starts here. -/
def unseen : BusView := ⟨none, none, none, none, .off⟩

/-- The view of a scan that has seen the state's whole history, no pulse under way. -/
def viewOf (s : State) : BusView := ⟨s.cs, s.cd, s.dir, s.dout, .off⟩

/-- The view after one event. -/
def viewStep (v : BusView) (e : Event) : BusView :=
  match e with
  | .cs b => { v with cs := some b, pulse := .off }
  | .cd b => { v with cd := some b, pulse := .off }
  | .dir d => { v with dir := some d, pulse := .off }
  | .dout x => { v with dout := some x, pulse := .off }
  | .wr b => { v with pulse := if b = 0 then .low else .off }
  | .delay k => { v with pulse := if v.pulse = .low ∧ k = .strobe then .held else .off }
  | .cfg => { v with pulse := .off }
  | .rd _ => { v with pulse := .off }
  | .rst _ => { v with pulse := .off }
  | .sample _ => { v with pulse := .off }

/-- The items one event yields: a write at the rising edge of a strobe, a read at a sample, `END` at the
CS(1) of an open frame. -/
def itemsOf (v : BusView) (e : Event) : List BusItem :=
  match e with
  | .wr b =>
    if b = 1 ∧ v.pulse ≠ .off ∧ v.cs = some 0 ∧ v.dir = some .write then [.w v.cd v.dout] else []
  | .sample x => if v.cs = some 0 then [.rd v.cd x] else []
  | .cs b => if b = 1 ∧ v.cs = some 0 then [.frameEnd] else []
  | .cd _ => []
  | .dir _ => []
  | .dout _ => []
  | .delay _ => []
  | .cfg => []
  | .rd _ => []
  | .rst _ => []

/-- The view after a list of events. -/
def viewAfter (v : BusView) (t : List Event) : BusView := t.foldl viewStep v

/-- The items of a list of events, the scan starting from `v`. -/
def bytesFrom (v : BusView) : List Event → List BusItem
  | [] => []
  | e :: t => itemsOf v e ++ bytesFrom (viewStep v e) t

/-- `bytes(trace)`. -/
def bytes (t : List Event) : List BusItem := bytesFrom unseen t

/-- Bus-equivalent traces (R10). -/
abbrev busEquivalent (t u : List Event) : Prop := bytes t = bytes u

end Sys2Proof.Machine
end

