-- ==== Sys2Proof/Machine/Frames.lean ====
section
/-! DEFINITION. The wire frames of spec/30_encoding.md R60 to R63 as lists of events and of bus items, written
from the rules and apart from the operations. Claims are stated with them; no operation reads them. -/

namespace Sys2Proof.Machine

/-- `ws()` (R11). -/
def wsEvents : List Event := [.wr 0, .delay .strobe, .wr 1]

/-- `wb(v)` (R11). -/
def wbEvents (v : Byte) : List Event := [.dout v, .wr 0, .delay .strobe, .wr 1]

/-- `rb()` when it sees `v` (R11). -/
def rbEvents (v : Byte) : List Event := [.rd 0, .delay .strobe, .sample v, .rd 1]

/-- The command part (R60, R96). -/
def commandEvents (cmd : Half) : List Event :=
  [.cs 0, .cd cdCommand] ++ wbEvents (cmd.extractLsb' 8 8) ++ wbEvents (cmd.extractLsb' 0 8)

/-- A register write frame (R61). -/
def writeFrame (addr : Half) (data : List Byte) : List Event :=
  commandEvents addr ++ [.cd cdData] ++ data.flatMap wbEvents ++ [.cs 1]

/-- A register read frame that sees the bytes `seen` (R62). -/
def readFrame (addr : Half) (seen : List Byte) : List Event :=
  commandEvents addr ++ [.dir .read, .cd cdData, .delay .turnaround] ++ seen.flatMap rbEvents
    ++ [.cs 1, .dir .write]

/-- The events of one Pixel: high byte first (R45). -/
def pixelEvents (p : Pixel) : List Event := wbEvents (p.extractLsb' 8 8) ++ wbEvents (p.extractLsb' 0 8)

/-- A pixel stream frame, with the preamble or as a continuation (R63). -/
def streamFrame (preamble : Option Half) (ps : List Pixel) : List Event :=
  (match preamble with
    | some gw => commandEvents gw
    | none => [.cs 0])
  ++ [.cd cdData] ++ ps.flatMap pixelEvents ++ [.cs 1]

/-- FLOOD's frame on its strobe-only path (R133): the first pixel by bytes, the others by two bare strobes. -/
def strobeFrame (gw : Half) (color : Pixel) (count : Nat) : List Event :=
  commandEvents gw ++ [.cd cdData] ++ pixelEvents color
    ++ (List.replicate (count - 1) (wsEvents ++ wsEvents)).flatten ++ [.cs 1]

/-- The frame or frames of one RegOp (R122). -/
def regOpEvents : RegOp → List Event
  | .w8 a d => writeFrame a [d]
  | .w16 a d => writeFrame a [d.extractLsb' 8 8, d.extractLsb' 0 8]
  | .w24 a d => writeFrame a [d.extractLsb' 16 8, d.extractLsb' 8 8, d.extractLsb' 0 8]
  | .w32 a d => writeFrame a [d.extractLsb' 24 8, d.extractLsb' 16 8, d.extractLsb' 8 8, d.extractLsb' 0 8]
  | .wp aH aL d => writeFrame aH [d.extractLsb' 8 8] ++ writeFrame aL [d.extractLsb' 0 8]
  | .wait n => [.delay (.init n)]

/-- FLOOD's frame on the path taken (R132, R133). -/
def floodEvents (strobeOnly : Bool) (gw : Half) (color : Pixel) (count : Nat) : List Event :=
  if strobeOnly && decide (color.extractLsb' 8 8 = color.extractLsb' 0 8) then strobeFrame gw color count
  else streamFrame (some gw) (List.replicate count color)

/-- A window and a flood of `count` pixels (R136, R138 to R140). -/
def windowFlood (cfg : Config) (v : VariantRecord) (x1 y1 x2 y2 : Half) (color : Pixel) (count : Nat) :
    List Event :=
  (v.windowSeq x1 y1 x2 y2).flatMap regOpEvents ++ floodEvents cfg.strobeOnlyFlood v.gramWrite color count

/-- DRAW_PIXEL's events: a one-pixel window and flood inside the panel, none outside (R136). -/
def pixelPlacement (cfg : Config) (v : VariantRecord) (color : Pixel) (x y : Int) : List Event :=
  if 0 ≤ x ∧ 0 ≤ y ∧ x < v.width.size ∧ y < v.height.size then
    windowFlood cfg v (BitVec.ofInt 16 x) (BitVec.ofInt 16 y) (BitVec.ofInt 16 x) (BitVec.ofInt 16 y) color 1
  else []

/-- The bus items of a command part (R60): `W(0, hi)`, `W(0, lo)` in command mode. -/
def commandItems (cmd : Half) : List BusItem :=
  [.w (some cdCommand) (some (cmd.extractLsb' 8 8)), .w (some cdCommand) (some (cmd.extractLsb' 0 8))]

/-- The bus items of data bytes written. -/
def dataItems (bs : List Byte) : List BusItem := bs.map fun b => .w (some cdData) (some b)

/-- The bus items of a Pixel list (R63). -/
def pixelItems (ps : List Pixel) : List BusItem :=
  ps.flatMap fun p => dataItems [p.extractLsb' 8 8, p.extractLsb' 0 8]

/-- What READ_ID can put on the bus (R119, one constructor a row): the events, the ControllerID and the
last register number sent. Each `seen` list holds the bytes of one read, `ext` is two or four bytes by
EXTID_READ_WIDTH (R114). -/
def probeFrames (db da : List Byte) (st : Word) : List Event :=
  readFrame 0x00DB#16 db ++ readFrame 0x00DA#16 da ++ readFrame 0x0004#16 (bytesOf32 st)

/-- The number of bytes of each extended-ID read (R114). -/
def extIdBytes (cfg : Config) : Nat :=
  match cfg.extIdWidth with
  | .bits16 => 2
  | .bits32 => 4

/-- The register write of step 3 (R116). -/
def setcFrame (cfg : Config) : List Event :=
  match cfg.setc with
  | .w8 a d => writeFrame a [d]
  | .w16 a d => writeFrame a (bytesOf16 d)
  | .w24 a d => writeFrame a (bytesOf24 d)
  | .w32 a d => writeFrame a (bytesOf32 d)

/-- Steps 4 and 5 (R117, R118): the events, the ControllerID and the low byte of the last register number. -/
inductive FinalProbe : List Event → Half → Byte → Prop where
  | known (d : Word) (h : d.extractLsb' 0 16 = 0x9341#16 ∨ d.extractLsb' 0 16 = 0x9338#16) :
      FinalProbe (readFrame 0x00D3#16 (bytesOf32 d)) (d.extractLsb' 0 16) 0xD3#8
  | legacy (d : Word) (id : Half)
      (h : d.extractLsb' 0 16 ≠ 0x9341#16 ∧ d.extractLsb' 0 16 ≠ 0x9338#16) :
      FinalProbe (readFrame 0x00D3#16 (bytesOf32 d) ++ readFrame 0x0000#16 (bytesOf16 id)) id 0x00#8

/-- READ_ID's outcomes (R113, R119). -/
inductive Detection (cfg : Config) : List Event → Half → Byte → Prop where
  | step2 (db da : List Byte) (hdb : db.length = extIdBytes cfg) (hda : da.length = extIdBytes cfg) :
      Detection cfg (probeFrames db da 0xFF858552#32) 0x7789#16 0x04#8
  | step3 (db da : List Byte) (hdb : db.length = extIdBytes cfg) (hda : da.length = extIdBytes cfg) :
      Detection cfg
        (probeFrames db da 0x00008000#32 ++ setcFrame cfg ++ [.delay .setc]
          ++ readFrame 0x00D0#16 (bytesOf32 0x00990000#32)) 0x8357#16 0xD0#8
  | unconfirmed (db da : List Byte) (c : Word) (ev : List Event) (id : Half) (low : Byte)
      (hdb : db.length = extIdBytes cfg) (hda : da.length = extIdBytes cfg)
      (hc : c ≠ 0x00990000#32) (h : FinalProbe ev id low) :
      Detection cfg
        (probeFrames db da 0x00008000#32 ++ setcFrame cfg ++ [.delay .setc]
          ++ readFrame 0x00D0#16 (bytesOf32 c) ++ ev) id low
  | neither (db da : List Byte) (st : Word) (ev : List Event) (id : Half) (low : Byte)
      (hdb : db.length = extIdBytes cfg) (hda : da.length = extIdBytes cfg)
      (hs : st ≠ 0xFF858552#32 ∧ st ≠ 0x00008000#32) (h : FinalProbe ev id low) :
      Detection cfg (probeFrames db da st ++ ev) id low

end Sys2Proof.Machine
end

