-- ==== Sys2Proof/Safety.lean ====
section
/-! DEFINITION. What a safe state and a safe trace are: the lifecycle modes (spec/60_exceptions.md R160), the
between-operations invariant (spec/10_state.md R32), the agreement of latches and trace (R21, R22, R24),
freedom from contention (spec/20_memory.md R59), the table of refusals (R155, R161) and the least time a
trace takes (spec/70_reset_and_hazards.md R185). -/

namespace Sys2Proof.Machine

/-- The lifecycle modes (R160). -/
inductive Mode where
  | unconfigured
  | probing
  | ready
  | unsupported
deriving DecidableEq, Repr

/-- The mode that PHASE and KIND fix (R160), none for the pairs no run reaches. -/
def modeOf (s : State) : Option Mode :=
  match s.phase, s.kind with
  | .unconfigured, .none => some .unconfigured
  | .configured, .none => some .probing
  | .configured, .known _ => some .ready
  | .configured, .unsupported => some .unsupported
  | .unconfigured, .known _ => none
  | .unconfigured, .unsupported => none

/-- R32: no frame open, strobes idle, the block driving the bus. -/
abbrev busAtRest (s : State) : Prop :=
  s.cs = some 1 ∧ s.wr = some 1 ∧ s.rd = some 1 ∧ s.dir = some .write

/-- R33, R170: before the first RESET no element holds a value. -/
abbrev pinsUnset (s : State) : Prop :=
  s.dir = none ∧ s.cs = none ∧ s.cd = none ∧ s.wr = none ∧ s.rd = none ∧ s.rst = none ∧ s.dout = none

/-- R33: from the first RESET on, every line holds a level, both strobes are idle between operations, and the
reset line is high exactly where it is wired. -/
abbrev pinsSet (cfg : Config) (s : State) : Prop :=
  s.dir ≠ none ∧ s.cs ≠ none ∧ s.cd ≠ none ∧ s.wr = some 1 ∧ s.rd = some 1 ∧
    s.rst = (if cfg.hasResetPin then some 1 else none)

/-- The invariant of every state a run reaches: a legal mode, pins as the phase says, BUF in canonical form. -/
abbrev Inv (s : State) : Prop :=
  Memory.wf s.buf = true ∧
  (s.phase = .unconfigured → s.kind = .none ∧ pinsUnset s) ∧
  (s.phase = .configured → pinsSet Config.board s)

/-- R80: a BusSignal operation is admitted, but for what it asks of DIR and DOUT. -/
abbrev busSignalAdmitted (s : State) : Prop := s.phase = .configured ∧ s.kind ≠ .unsupported

/-- R95, R110: a RegisterProtocol operation or READ_ID is admitted. -/
abbrev registerAdmitted (s : State) : Prop :=
  busSignalAdmitted s ∧ s.cs = some 1 ∧ s.dir = some .write

/-- R130: BEGIN or a BlitEngine operation is admitted, but for its operands; KIND is `κ`. -/
abbrev variantAdmitted (κ : Kind) (s : State) : Prop :=
  s.phase = .configured ∧ s.kind = .known κ ∧ s.cs = some 1 ∧ s.dir = some .write

/-- The seven latches, as the last event of each line says them. -/
structure Latches where
  dir  : Option Dir
  cs   : Option Level
  cd   : Option Level
  wr   : Option Level
  rd   : Option Level
  rst  : Option Level
  dout : Option Byte
deriving DecidableEq, Repr

/-- What one event does to the latches (R9, R21, R22, R24). -/
def latchStep (l : Latches) (e : Event) : Latches :=
  match e with
  | .cs b => { l with cs := some b }
  | .cd b => { l with cd := some b }
  | .wr b => { l with wr := some b }
  | .rd b => { l with rd := some b }
  | .rst b => { l with rst := some b }
  | .dir d => { l with dir := some d }
  | .dout v => { l with dout := some v }
  | .cfg => l
  | .sample _ => l
  | .delay _ => l

/-- The latches a trace leaves, from power-on. -/
def replay (t : List Event) : Latches := t.foldl latchStep ⟨none, none, none, none, none, none, none⟩

/-- The latches of a state. -/
def latchesOf (s : State) : Latches := ⟨s.dir, s.cs, s.cd, s.wr, s.rd, s.rst, s.dout⟩

/-- The state after the events `ev` and nothing else: each drive sets its latch (R21), and the trace grows. -/
def afterEvents (s : State) (ev : List Event) : State :=
  let l := ev.foldl latchStep (latchesOf s)
  { s with dir := l.dir, cs := l.cs, cd := l.cd, wr := l.wr, rd := l.rd, rst := l.rst, dout := l.dout,
           trace := s.trace ++ ev }

/-- The trace says what every latch holds. -/
abbrev traceAgrees (s : State) : Prop := replay s.trace = latchesOf s

/-- Whether an event is safe on the bus while the direction is `d` (R59, R90): RD falls only in Read, WR falls
only in Write. -/
def eventQuiet (d : Option Dir) (e : Event) : Bool :=
  match e with
  | .rd b => b = 1 || d = some .read
  | .wr b => b = 1 || d = some .write
  | .cfg => true
  | .cs _ => true
  | .cd _ => true
  | .rst _ => true
  | .dir _ => true
  | .dout _ => true
  | .sample _ => true
  | .delay _ => true

/-- No contention in a trace that begins while the direction is `d`. -/
def quietFrom (d : Option Dir) : List Event → Bool
  | [] => true
  | e :: t => eventQuiet d e && quietFrom (match e with | .dir d' => some d' | _ => d) t

/-- An event that strobes the bus: WR or RD falls (R12; S10, "no further bus writes occur"). -/
def isStrobe (e : Event) : Bool := e = .wr 0 || e = .rd 0

/-- The operation `i` completes from `s`, and the events it appends put these items on the bus. -/
abbrev putsOnBus (i : Instr) (s : State) (items : List BusItem) : Prop :=
  ∃ (t : State) (ev : List Event), exec i s = .next t ∧ t.trace = s.trace ++ ev ∧ bytesFrom (viewOf s) ev = items

/-- What R155 and R161 ask of an operation, beside its operands. -/
inductive AdmissionClass where
  | always
  | busSignal
  | register
  | spawn
  | variant
deriving DecidableEq, Repr

/-- The rows of R161's table. -/
def admissionClass (i : Instr) : AdmissionClass :=
  match i with
  | .reset => .always
  | .spawn _ => .spawn
  | .csAssert | .csIdle | .cdCommand | .cdData | .wrStrobe | .writeByte _ | .readByte
  | .setDirWrite | .setDirRead => .busSignal
  | .writeCommand _ | .writeReg8 _ _ | .writeReg16 _ _ | .writeReg24 _ _ | .writeReg32 _ _
  | .writeRegPair _ _ _ | .readReg16 _ | .readReg32 _ | .readId => .register
  | .beginInit | .setAddrWindow _ _ _ _ | .flood _ _ | .pushColors _ _ _ | .drawBitmap _ _ _ _ _
  | .drawPixel _ _ _ | .fillRect _ _ _ _ _ | .drawFastHLine _ _ _ _ | .drawFastVLine _ _ _ _ => .variant

/-- The BUF cells an operation reads: base and number, none where it reads no buffer (R134, R135). -/
def cellsNeeded (i : Instr) : Option (Nat × Nat) :=
  match i with
  | .pushColors _ count base => some (base.toNat, count.toNat)
  | .drawBitmap _ _ w h base =>
    if 0 < w.toInt ∧ 0 < h.toInt then some (base.toNat, (w.toInt * h.toInt).toNat) else none
  | _ => none

/-- When a reason of R155 applies to a request, the table's rows one by one and in no order. -/
def reasonApplies (r : Refusal) (i : Instr) (s : State) : Prop :=
  match r with
  | .notConfigured => admissionClass i ≠ .always ∧ s.phase = .unconfigured
  | .unsupportedPanel =>
    admissionClass i ≠ .always ∧ admissionClass i ≠ .spawn ∧ s.kind = .unsupported
  | .noVariant => admissionClass i = .variant ∧ s.kind = .none
  | .alreadySpawned => admissionClass i = .spawn ∧ s.kind ≠ .none
  | .busBusy => (admissionClass i = .register ∨ admissionClass i = .variant) ∧ s.cs ≠ some 1
  | .wrongDirection =>
    ((admissionClass i = .register ∨ admissionClass i = .variant ∨ i = .wrStrobe ∨ ∃ v, i = .writeByte v) ∧
      s.dir ≠ some .write) ∨ (i = .readByte ∧ s.dir ≠ some .read)
  | .doutUndefined => i = .wrStrobe ∧ s.dout = none
  | .zeroCount => ∃ color, i = .flood color 0
  | .bufferRange => ∃ base n, cellsNeeded i = some (base, n) ∧ 2 ^ 32 < base + n
  | .bufferUndefined =>
    ∃ base n, cellsNeeded i = some (base, n) ∧ ∃ k, k < n ∧ Memory.read s.buf (base + k) = none
  | .badDescriptor => False
  | _ => False

/-- The place of a reason in R155's table. -/
def reasonRank : Refusal → Nat
  | .badDescriptor => 0
  | .notConfigured => 1
  | .unsupportedPanel => 2
  | .noVariant => 3
  | .alreadySpawned => 4
  | .busBusy => 5
  | .wrongDirection => 6
  | .doutUndefined => 7
  | .zeroCount => 8
  | .bufferRange => 9
  | .bufferUndefined => 10
  | _ => 11

/-- The least time of a busy-wait in nanoseconds (R185): each parameter is a lower bound, the two reset waits
are at least 100 ms, `init n` at least `n` milliseconds (log 25). -/
def leastDuration (cfg : Config) (k : DelayKind) : Nat :=
  match k with
  | .strobe => cfg.tStrobe
  | .turnaround => cfg.tTurnaround
  | .resetLow => 100000000 + cfg.tResetLowOver
  | .resetHigh => 100000000 + cfg.tResetHighOver
  | .setc => cfg.tSetc
  | .init n => n * 1000000

/-- The least time a trace takes: the sum of its waits. -/
def leastTime (cfg : Config) (t : List Event) : Nat :=
  (t.map fun e => match e with | .delay k => leastDuration cfg k | _ => 0).sum

end Sys2Proof.Machine
end

