-- ==== Sys2Proof/Certificates/Slice0/Obligations.lean ====
section
/-! DEFINITION. The statements for the provers. A docstring names the rule of spec/ a statement formalises;
where it rests on a decision D<n> of spec/92_eei_decisions.md (the spec's own choice, not its source's) or on a
log entry of this model, it says so. -/

open Sys2Proof Sys2Proof.Machine

/-! ### BusSignal -/

/-- R81, R82: the effect and the frame of CS_ASSERT and CS_IDLE, whatever CS was; on the bus CS_IDLE is END where a
frame is open and nothing else is anything. -/
def Obligations.ChipSelectPrimitivesDriveOnlyCs : Prop :=
  ∀ s : State, busSignalAdmitted s →
    exec .csAssert s = .next { s with cs := some 0, result := none, trace := s.trace ++ [.cs 0] } ∧
    exec .csIdle s = .next { s with cs := some 1, result := none, trace := s.trace ++ [.cs 1] } ∧
    bytesFrom (viewOf s) [.cs 0] = [] ∧
    bytesFrom (viewOf s) [.cs 1] = if s.cs = some 0 then [.frameEnd] else []

/-- R83, R84: the effect and the frame of CD_COMMAND and CD_DATA. The levels 0 and 1 are the spec's decision D1
(log 9). -/
def Obligations.CommandDataPrimitivesDriveOnlyCd : Prop :=
  ∀ s : State, busSignalAdmitted s →
    exec .cdCommand s = .next { s with cd := some 0, result := none, trace := s.trace ++ [.cd 0] } ∧
    exec .cdData s = .next { s with cd := some 1, result := none, trace := s.trace ++ [.cd 1] }

/-- R88, R89: the effect and the frame of SET_DIR_WRITE and SET_DIR_READ, also where DIR holds that direction already.
That DOUT keeps its value across a change of direction is what R22 calls the spec's reading (log 27). -/
def Obligations.DirectionPrimitivesSwitchOnlyDir : Prop :=
  ∀ s : State, busSignalAdmitted s →
    exec .setDirWrite s = .next { s with dir := some .write, result := none, trace := s.trace ++ [.dir .write] } ∧
    exec .setDirRead s = .next { s with dir := some .read, result := none, trace := s.trace ++ [.dir .read] }

/-- R85: WR_STROBE pulses WR and touches nothing else; in the wrong direction, or before any byte was loaded, it
is refused; on the bus it is one byte where CS = 0 and nothing where CS = 1. The refusals are the rule's Requires
line; that a false assumption is refused is the spec's decision D8, that DOUT may hold no value D4 (log 7, log 8). -/
def Obligations.WrStrobePulsesWrAndKeepsDout : Prop :=
  ∀ s : State, busSignalAdmitted s →
    (s.dir = some .write → s.dout ≠ none →
      exec .wrStrobe s =
        .next { s with wr := some 1, result := none, trace := s.trace ++ [.wr 0, .delay .strobe, .wr 1] }) ∧
    (s.dir ≠ some .write → exec .wrStrobe s = .refused .wrongDirection) ∧
    (s.dir = some .write → s.dout = none → exec .wrStrobe s = .refused .doutUndefined) ∧
    (s.dir = some .write →
      bytesFrom (viewOf s) [.wr 0, .delay .strobe, .wr 1] = if s.cs = some 0 then [.w s.cd s.dout] else [])

/-- R86: WRITE_BYTE loads DOUT, then strobes; in the wrong direction it is refused; on the bus it is the byte `v`
where CS = 0 and nothing where CS = 1, and where DOUT held `v` already it is what WR_STROBE is. The refusal is the
rule's Requires line; that a false assumption is refused is the spec's decision D8 (log 7). -/
def Obligations.WriteByteLoadsThenStrobes : Prop :=
  ∀ (s : State) (v : Byte), busSignalAdmitted s →
    (s.dir = some .write →
      exec (.writeByte v) s =
        .next { s with wr := some 1, dout := some v, result := none,
                       trace := s.trace ++ [.dout v, .wr 0, .delay .strobe, .wr 1] }) ∧
    (s.dir ≠ some .write → exec (.writeByte v) s = .refused .wrongDirection) ∧
    (s.dir = some .write →
      bytesFrom (viewOf s) [.dout v, .wr 0, .delay .strobe, .wr 1] =
        if s.cs = some 0 then [.w s.cd (some v)] else []) ∧
    (s.dout = some v →
      bytesFrom (viewOf s) [.dout v, .wr 0, .delay .strobe, .wr 1] =
        bytesFrom (viewOf s) [.wr 0, .delay .strobe, .wr 1])

/-- R87: READ_BYTE samples some byte while RD is low and returns it, zero-extended; on the bus it is that byte read where
CS = 0 and nothing where CS = 1; in the wrong direction it is refused, by the spec's decision D8 (log 7). Where the sample lies in the pulse is the spec's decision D2 (log 10); that the byte may be any is D9
(log 6). -/
def Obligations.ReadByteReturnsTheSampledByte : Prop :=
  ∀ s : State, busSignalAdmitted s →
    (s.dir = some .read →
      ∃ v : Byte, exec .readByte s =
        .next { s with rd := some 1, result := some (v.setWidth 32),
                       trace := s.trace ++ [.rd 0, .delay .strobe, .sample v, .rd 1] } ∧
        bytesFrom (viewOf s) [.rd 0, .delay .strobe, .sample v, .rd 1] =
          if s.cs = some 0 then [.rd s.cd v] else []) ∧
    (s.dir ≠ some .read → exec .readByte s = .refused .wrongDirection)

/-! ### RegisterProtocol -/

/-- R96: WRITE_COMMAND leaves the frame open, CS asserted and in command mode. -/
def Obligations.WriteCommandLeavesTheFrameOpen : Prop :=
  ∀ (s : State) (cmd : Half), registerAdmitted s →
    exec (.writeCommand cmd) s =
      .next { s with cs := some 0, cd := some cdCommand, wr := some 1, dout := some (cmd.extractLsb' 0 8),
                     result := none,
                     trace := s.trace ++ [.cs 0, .cd cdCommand]
                       ++ wbEvents (cmd.extractLsb' 8 8) ++ wbEvents (cmd.extractLsb' 0 8) }

/-- R97 to R100: the effect and the frame of WRITE_REG8, WRITE_REG16, WRITE_REG24 and WRITE_REG32. -/
def Obligations.RegisterWritesSendOneFrame : Prop :=
  ∀ (s : State) (addr : Half), registerAdmitted s →
    (∀ d : Byte, exec (.writeReg8 addr d) s =
      .next { s with cs := some 1, cd := some cdData, wr := some 1, dout := some d, result := none,
                     trace := s.trace ++ (commandEvents addr ++ [.cd cdData] ++ wbEvents d ++ [.cs 1]) }) ∧
    (∀ d : Half, exec (.writeReg16 addr d) s =
      .next { s with cs := some 1, cd := some cdData, wr := some 1, dout := some (d.extractLsb' 0 8),
                     result := none,
                     trace := s.trace ++ (commandEvents addr ++ [.cd cdData] ++ wbEvents (d.extractLsb' 8 8)
                       ++ wbEvents (d.extractLsb' 0 8) ++ [.cs 1]) }) ∧
    (∀ d : BitVec 24, exec (.writeReg24 addr d) s =
      .next { s with cs := some 1, cd := some cdData, wr := some 1, dout := some (d.extractLsb' 0 8),
                     result := none,
                     trace := s.trace ++ (commandEvents addr ++ [.cd cdData] ++ wbEvents (d.extractLsb' 16 8)
                       ++ wbEvents (d.extractLsb' 8 8) ++ wbEvents (d.extractLsb' 0 8) ++ [.cs 1]) }) ∧
    (∀ d : Word, exec (.writeReg32 addr d) s =
      .next { s with cs := some 1, cd := some cdData, wr := some 1, dout := some (d.extractLsb' 0 8),
                     result := none,
                     trace := s.trace ++ (commandEvents addr ++ [.cd cdData] ++ wbEvents (d.extractLsb' 24 8)
                       ++ wbEvents (d.extractLsb' 16 8) ++ wbEvents (d.extractLsb' 8 8)
                       ++ wbEvents (d.extractLsb' 0 8) ++ [.cs 1]) })

/-- R101: WRITE_REG_PAIR is two whole 8-bit write frames. That the high half goes first is the spec's decision D10
(log 13). -/
def Obligations.WriteRegPairSendsTwoFrames : Prop :=
  ∀ (s : State) (aHigh aLow d : Half), registerAdmitted s →
    exec (.writeRegPair aHigh aLow d) s =
      .next { s with cs := some 1, cd := some cdData, wr := some 1, dout := some (d.extractLsb' 0 8),
                     result := none,
                     trace := s.trace ++ writeFrame aHigh [d.extractLsb' 8 8]
                       ++ writeFrame aLow [d.extractLsb' 0 8] }

/-- R102: READ_REG16 reads some two bytes in one frame, returns them with the first most significant, and leaves
the bus in write direction with CS idle. That each sample lies while RD is low is the spec's decision D2 (log 10), that
the bytes may be any is D9 (log 6). -/
def Obligations.ReadReg16ReturnsTwoBytesMsbFirst : Prop :=
  ∀ (s : State) (addr : Half), registerAdmitted s →
    ∃ b0 b1 : Byte, exec (.readReg16 addr) s =
      .next { s with cs := some 1, cd := some cdData, wr := some 1, rd := some 1, dir := some .write,
                     dout := some (addr.extractLsb' 0 8),
                     result := some ((b0 ++ b1).setWidth 32),
                     trace := s.trace ++ (commandEvents addr
                       ++ [.dir .read, .cd cdData, .delay .turnaround] ++ rbEvents b0 ++ rbEvents b1
                       ++ [.cs 1, .dir .write]) }

/-- R103: READ_REG32 reads some four bytes in one frame, in this order with one turnaround delay, and returns them
with the first most significant. That each sample lies while RD is low is the spec's decision D2 (log 10), that the
bytes may be any is D9 (log 6). -/
def Obligations.ReadReg32ReturnsFourBytesMsbFirst : Prop :=
  ∀ (s : State) (addr : Half), registerAdmitted s →
    ∃ b0 b1 b2 b3 : Byte, exec (.readReg32 addr) s =
      .next { s with cs := some 1, cd := some cdData, wr := some 1, rd := some 1, dir := some .write,
                     dout := some (addr.extractLsb' 0 8),
                     result := some (b0 ++ b1 ++ b2 ++ b3),
                     trace := s.trace ++ (commandEvents addr
                       ++ [.dir .read, .cd cdData, .delay .turnaround]
                       ++ rbEvents b0 ++ rbEvents b1 ++ rbEvents b2 ++ rbEvents b3
                       ++ [.cs 1, .dir .write]) }

/-- R105: the shift-and-or assembly puts the first byte received on top, and splitting a datum into its bytes is
its inverse. -/
def Obligations.AssemblyIsMsbFirstAndInvertsSplitting : Prop :=
  (∀ b0 b1 : Byte, assemble 16 [b0, b1] = b0 ++ b1 ∧ bytesOf16 (b0 ++ b1) = [b0, b1]) ∧
  (∀ b0 b1 b2 b3 : Byte, assemble 32 [b0, b1, b2, b3] = b0 ++ b1 ++ b2 ++ b3 ∧
    bytesOf32 (b0 ++ b1 ++ b2 ++ b3) = [b0, b1, b2, b3]) ∧
  (∀ d : Half, assemble 16 (bytesOf16 d) = d) ∧
  (∀ d : BitVec 24, assemble 24 (bytesOf24 d) = d) ∧
  (∀ d : Word, assemble 32 (bytesOf32 d) = d)

/-- R60, R61, R62: what a register write frame and a register read frame put on the bus, from any view in which the
block drives the pins: two command bytes (the high one also when it is zero), the data bytes in order, and END; and
that this is what the events of the eight register operations put on it, WRITE_COMMAND's without END, WRITE_REG_PAIR's
as two frames with the high half first (D10, log 13). The levels that stand with the bytes are D1 (log 9). -/
def Obligations.RegisterFramesOnTheBus : Prop :=
  (∀ (v : BusView) (addr : Half) (bs : List Byte), v.dir = some .write →
    bytesFrom v (writeFrame addr bs) = commandItems addr ++ dataItems bs ++ [.frameEnd] ∧
    bytesFrom v (readFrame addr bs) =
      commandItems addr ++ bs.map (fun b => .rd (some cdData) b) ++ [.frameEnd] ∧
    (viewAfter v (writeFrame addr bs)).cs = some 1 ∧
    (viewAfter v (readFrame addr bs)).dir = some .write) ∧
  ∀ (s : State) (addr : Half), registerAdmitted s →
    putsOnBus (.writeCommand addr) s (commandItems addr) ∧
    (∀ d : Byte, putsOnBus (.writeReg8 addr d) s (commandItems addr ++ dataItems [d] ++ [.frameEnd])) ∧
    (∀ d : Half, putsOnBus (.writeReg16 addr d) s
      (commandItems addr ++ dataItems [d.extractLsb' 8 8, d.extractLsb' 0 8] ++ [.frameEnd])) ∧
    (∀ d : BitVec 24, putsOnBus (.writeReg24 addr d) s
      (commandItems addr ++ dataItems [d.extractLsb' 16 8, d.extractLsb' 8 8, d.extractLsb' 0 8] ++ [.frameEnd])) ∧
    (∀ d : Word, putsOnBus (.writeReg32 addr d) s
      (commandItems addr ++ dataItems [d.extractLsb' 24 8, d.extractLsb' 16 8, d.extractLsb' 8 8, d.extractLsb' 0 8]
        ++ [.frameEnd])) ∧
    (∀ aLow d : Half, putsOnBus (.writeRegPair addr aLow d) s
      (commandItems addr ++ dataItems [d.extractLsb' 8 8] ++ [.frameEnd]
        ++ commandItems aLow ++ dataItems [d.extractLsb' 0 8] ++ [.frameEnd])) ∧
    (∃ b0 b1 : Byte, putsOnBus (.readReg16 addr) s
        (commandItems addr ++ [.rd (some cdData) b0, .rd (some cdData) b1, .frameEnd]) ∧
      ∃ t, exec (.readReg16 addr) s = .next t ∧ t.result = some ((b0 ++ b1).setWidth 32)) ∧
    (∃ b0 b1 b2 b3 : Byte, putsOnBus (.readReg32 addr) s
        (commandItems addr ++ [.rd (some cdData) b0, .rd (some cdData) b1, .rd (some cdData) b2,
          .rd (some cdData) b3, .frameEnd]) ∧
      ∃ t, exec (.readReg32 addr) s = .next t ∧ t.result = some (b0 ++ b1 ++ b2 ++ b3))

/-- R63: what a pixel stream frame puts on the bus, with the preamble and as a continuation: the pixels in order,
each as its high byte and then its low byte, and END; and that this is what PUSH_COLORS puts on it, a first burst with
the preamble and a later one without. FLOOD's bytes are FloodBytesDoNotDependOnThePath. The buffer's addressing is the
spec's decision D21, a count of 0 being admitted D22 (log 4, log 21). -/
def Obligations.PixelStreamFramesOnTheBus : Prop :=
  (∀ (v : BusView) (gw : Half) (ps : List Pixel), v.dir = some .write →
    bytesFrom v (streamFrame (some gw) ps) = commandItems gw ++ pixelItems ps ++ [.frameEnd] ∧
    bytesFrom v (streamFrame none ps) = pixelItems ps ++ [.frameEnd]) ∧
  ∀ (s : State) (κ : Kind) (count base : Word) (px : Nat → Pixel), variantAdmitted κ s →
    base.toNat + count.toNat ≤ 2 ^ 32 →
    (∀ k, k < count.toNat → Memory.read s.buf (base.toNat + k) = some (px k)) →
    putsOnBus (.pushColors true count base) s
      (commandItems (Config.board.variant κ).gramWrite ++ pixelItems ((List.range count.toNat).map px)
        ++ [.frameEnd]) ∧
    putsOnBus (.pushColors false count base) s
      (pixelItems ((List.range count.toNat).map px) ++ [.frameEnd])

/-! ### Start-up and detection -/

/-- R111: RESET in every state. The order among the four control lines is the spec's decision D5 (log 11). -/
def Obligations.ResetIdlesThePinsAndConfigures : Prop :=
  ∀ s : State,
    exec .reset s =
      .next { s with phase := .configured, dir := some .write, cs := some 1, cd := some 1, wr := some 1,
                     rd := some 1, rst := (if Config.board.hasResetPin then some 1 else s.rst), result := none,
                     trace := s.trace ++ [.cfg, .cs 1, .cd 1, .wr 1, .rd 1, .dir .write] ++
                       (if Config.board.hasResetPin then
                         [.rst 1, .rst 0, .delay .resetLow, .rst 1, .delay .resetHigh] else []) }

/-- R172: after RESET the block is configured and its pins are idle; where a reset line is wired it has been low and
then high, each for at least 100 ms. That a wait has a least time, in nanoseconds, is the model's reading of the spec's
decision D27 (log 25); no operation reads it. -/
def Obligations.AfterResetThePanelHasSettled : Prop :=
  ∀ s : State, ∃ (t : State) (ev : List Event), exec .reset s = .next t ∧ t.trace = s.trace ++ ev ∧
    t.phase = .configured ∧ t.cs = some 1 ∧ t.cd = some 1 ∧ t.wr = some 1 ∧ t.rd = some 1 ∧
    t.dir = some .write ∧
    (if Config.board.hasResetPin then
      t.rst = some 1 ∧ [.rst 0, .delay .resetLow, .rst 1, .delay .resetHigh] <:+ ev ∧
      100000000 ≤ leastDuration Config.board .resetLow ∧
      100000000 ≤ leastDuration Config.board .resetHigh ∧ 200000000 ≤ leastTime Config.board ev
    else t.rst = s.rst)

/-- R112, R111: RESET puts no byte on the bus and reads none, selects no variant and clears none; at most it ends a frame
the host left open, which R10 shows as END (log 28; 95 V38). That it keeps DOUT is the spec's decision D4, that it keeps
KIND D16 (log 8, log 16). -/
def Obligations.ResetSendsNothingOverTheBus : Prop :=
  ∀ s : State, ∃ (t : State) (ev : List Event), exec .reset s = .next t ∧ t.trace = s.trace ++ ev ∧
    t.kind = s.kind ∧ t.dout = s.dout ∧
    bytesFrom (viewOf s) ev = if s.cs = some 0 then [.frameEnd] else []

/-- R113, R119: READ_ID runs one of the six rows of R119's table, whatever the panel answers, and returns that row's
ControllerID; KIND is not written. It rests on the spec's decisions D11, D12 and D13 (log 14). -/
def Obligations.ReadIdFollowsTheDetectionTable : Prop :=
  ∀ s : State, registerAdmitted s →
    ∃ (ev : List Event) (id : Half) (low : Byte), Detection Config.board ev id low ∧
      exec .readId s =
        .next { s with cs := some 1, cd := some cdData, wr := some 1, rd := some 1, dir := some .write,
                       dout := some low, result := some (id.setWidth 32), trace := s.trace ++ ev }

/-- R113 to R118 on any configuration: the reads that detection makes, each on the state the one before left, and how
their values decide the ID, in priority order: the status at 0x0004, the confirmation at 0x00D0, the low half of
0x00D3, and the legacy register 0x0000 as it is. The width of the first two reads is the spec's decision D11, that a
failed confirmation goes on to step 4 D12, the low half D13 (log 14). -/
def Obligations.ReadIdDecidesByPriority : Prop :=
  ∀ (cfg : Config) (s : State),
    let db := readExtId cfg 0x00DB#16 s
    let da := readExtId cfg 0x00DA#16 db.2
    let st := readReg32Body cfg 0x0004#16 da.2
    let c := readReg32Body cfg 0x00D0#16 (delay .setc (setcBody cfg st.2))
    (st.1 = 0xFF858552#32 → readIdBody cfg s = (0x7789#16, st.2)) ∧
    (st.1 = 0x00008000#32 → c.1 = 0x00990000#32 → readIdBody cfg s = (0x8357#16, c.2)) ∧
    (st.1 = 0x00008000#32 → c.1 ≠ 0x00990000#32 → readIdBody cfg s = detectSteps45 cfg c.2) ∧
    (st.1 ≠ 0xFF858552#32 → st.1 ≠ 0x00008000#32 → readIdBody cfg s = detectSteps45 cfg st.2) ∧
    (∀ u : State,
      let d := readReg32Body cfg 0x00D3#16 u
      let id : Half := d.1.extractLsb' 0 16
      (id = 0x9341#16 ∨ id = 0x9338#16 → detectSteps45 cfg u = (id, d.2)) ∧
      (id ≠ 0x9341#16 → id ≠ 0x9338#16 → detectSteps45 cfg u = readReg16Body cfg 0x0000#16 d.2))

/-- R120, R123: SPAWN sets KIND and returns the kind code, with no event and nothing else changed. The table's fixed
points and the codes are the spec's decision D15 (log 15); the entries the spec leaves open are the board's. That a
second SPAWN is refused is D16 (log 16). That it completes whatever CS and DIR are follows R110, where R24 reads
otherwise (log 34). -/
def Obligations.SpawnSelectsTheVariantOnce : Prop :=
  (kindCode .ili932x = 1 ∧ kindCode .ili9341 = 2 ∧ kindCode .hx8347g = 3 ∧ kindCode .hx8357x = 4 ∧
    kindCode .st7789 = 5) ∧
  ∀ (s : State), s.phase = .configured →
    (s.kind = .none →
      exec (.spawn 0x7789#16) s = .next { s with kind := .known .st7789, result := some 5 } ∧
      exec (.spawn 0x8357#16) s = .next { s with kind := .known .hx8357x, result := some 4 } ∧
      exec (.spawn 0x0000#16) s = .next { s with kind := .unsupported, result := some 0 } ∧
      (∃ k, exec (.spawn 0x9341#16) s = .next { s with kind := .known k, result := some (kindCode k) }) ∧
      (∃ k, exec (.spawn 0x9338#16) s = .next { s with kind := .known k, result := some (kindCode k) }) ∧
      ∀ id, exec (.spawn id) s = .next { s with kind := .unsupported, result := some 0 } ∨
        ∃ k, exec (.spawn id) s = .next { s with kind := .known k, result := some (kindCode k) }) ∧
    (s.kind ≠ .none → ∀ id, exec (.spawn id) s = .refused .alreadySpawned)

/-- R121, R122: BEGIN plays the variant's initialisation sequence in order, each write as whole frames, each wait as
one delay. Playing and the record's shape are the spec's decisions D16 and D17 (log 16, log 17). -/
def Obligations.BeginPlaysTheInitSequence : Prop :=
  ∀ (s : State) (κ : Kind), variantAdmitted κ s →
    exec .beginInit s =
      .next { afterEvents s ((Config.board.variant κ).initSeq.flatMap regOpEvents) with result := none }

/-! ### BlitEngine -/

/-- R131: SET_ADDR_WINDOW plays the variant's window sequence for its four operands, valid or not, and keeps no window.
That the operands go unchecked is the spec's decision D25 (log 24). -/
def Obligations.SetAddrWindowPlaysTheWindowSequence : Prop :=
  ∀ (s : State) (κ : Kind) (x1 y1 x2 y2 : Half), variantAdmitted κ s →
    exec (.setAddrWindow x1 y1 x2 y2) s =
      .next { afterEvents s (((Config.board.variant κ).windowSeq x1 y1 x2 y2).flatMap regOpEvents) with
              result := none }

/-- R132: FLOOD sends the preamble once and `count` pixels, on the path R133 leaves to the board (D28, log 26); a count
of 0 is refused, by the spec's decisions D22 and D8 (log 21, log 7). -/
def Obligations.FloodSendsThePreambleAndCountPixels : Prop :=
  ∀ (s : State) (κ : Kind) (color : Pixel) (count : Word), variantAdmitted κ s →
    (count ≠ 0 →
      exec (.flood color count) s =
        .next { s with cs := some 1, cd := some cdData, wr := some 1, dout := some (color.extractLsb' 0 8),
                       result := none,
                       trace := s.trace ++ floodEvents Config.board.strobeOnlyFlood
                         (Config.board.variant κ).gramWrite color count.toNat }) ∧
    (count = 0 → exec (.flood color count) s = .refused .zeroCount)

/-- R132, R133: whichever path the board takes, a FLOOD puts on the bus the preamble, `count` times the colour's two
bytes, and END. The freedom of the path is the spec's decision D28 (log 26). -/
def Obligations.FloodBytesDoNotDependOnThePath : Prop :=
  ∀ (s : State) (κ : Kind) (color : Pixel) (count : Word), variantAdmitted κ s → count ≠ 0 →
    ∃ (t : State) (ev : List Event), exec (.flood color count) s = .next t ∧ t.trace = s.trace ++ ev ∧
      bytesFrom (viewOf s) ev =
        commandItems (Config.board.variant κ).gramWrite
          ++ pixelItems (List.replicate count.toNat color) ++ [.frameEnd]

/-- R133: for a colour of two equal bytes the strobe-only path and the general path leave the same state but for the
trace, their traces are bus-equivalent after any history, and both strobe 2 + 2 * count times. The licence of the
path is the spec's decision D28 (log 26). -/
def Obligations.FloodPathsAreBusEquivalent : Prop :=
  ∀ (gw : Half) (color : Pixel) (count : Nat) (s : State), 1 ≤ count →
    color.extractLsb' 8 8 = color.extractLsb' 0 8 →
    let fast := floodByStrobes gw color count s
    let slow := floodByBytes gw color count s
    fast = { slow with trace := fast.trace } ∧ busEquivalent fast.trace slow.trace ∧
    fast.trace.count (.wr 0) = s.trace.count (.wr 0) + (2 + 2 * count) ∧
    slow.trace.count (.wr 0) = s.trace.count (.wr 0) + (2 + 2 * count)

/-- R146: unrolling the strobe-only path in batches of 64 pixels with a remainder loop changes nothing, for every
count. -/
def Obligations.FloodBatchingIsUnobservable : Prop :=
  ∀ (gw : Half) (color : Pixel) (count : Nat) (s : State),
    floodByBatches gw color count s = floodByStrobes gw color count s ∧
    64 * floodBlocks (count - 1) + floodRemainder (count - 1) = count - 1

/-- R134: PUSH_COLORS sends the BUF cells from `base` on, in order and unchanged, after the preamble on a first burst
only, and writes no cell. A count of 0 being admitted is the spec's decision D22, the buffer's addressing D21
(log 21, log 4). -/
def Obligations.PushColorsSendsTheCellsVerbatim : Prop :=
  ∀ (s : State) (κ : Kind) (first : Bool) (count base : Word) (px : Nat → Pixel), variantAdmitted κ s →
    base.toNat + count.toNat ≤ 2 ^ 32 →
    (∀ k, k < count.toNat → Memory.read s.buf (base.toNat + k) = some (px k)) →
    exec (.pushColors first count base) s =
      .next { afterEvents s (streamFrame (if first then some (Config.board.variant κ).gramWrite else none)
                ((List.range count.toNat).map px)) with result := none }

/-- R135: DRAW_BITMAP wholly inside the panel sets one window and sends all pixels in one burst, row by row. Row-major
order is the spec's decision D19 (log 19). -/
def Obligations.DrawBitmapInsideIsOneWindowAndOneBurst : Prop :=
  ∀ (s : State) (κ : Kind) (x y w h : Half) (base : Word) (px : Nat → Pixel), variantAdmitted κ s →
    0 ≤ x.toInt → 0 ≤ y.toInt → 0 < w.toInt → 0 < h.toInt →
    x.toInt + w.toInt ≤ (Config.board.variant κ).width.size →
    y.toInt + h.toInt ≤ (Config.board.variant κ).height.size →
    base.toNat + (w.toInt * h.toInt).toNat ≤ 2 ^ 32 →
    (∀ k, k < (w.toInt * h.toInt).toNat → Memory.read s.buf (base.toNat + k) = some (px k)) →
    exec (.drawBitmap x y w h base) s =
      .next { afterEvents s
                (((Config.board.variant κ).windowSeq x y (BitVec.ofInt 16 (x.toInt + w.toInt - 1))
                    (BitVec.ofInt 16 (y.toInt + h.toInt - 1))).flatMap regOpEvents
                  ++ streamFrame (some (Config.board.variant κ).gramWrite)
                    ((List.range (w.toInt * h.toInt).toNat).map px)) with result := none }

/-- R135: DRAW_BITMAP partly or wholly outside places each pixel by itself, rows from the top, each from the left, cell
`base + j * w + i` at (x + i, y + j), and skips those outside. The order is the spec's decision D19, DRAW_PIXEL's
body D18 (log 18, log 19). -/
def Obligations.DrawBitmapOutsideIsPixelByPixel : Prop :=
  ∀ (s : State) (κ : Kind) (x y w h : Half) (base : Word) (px : Nat → Pixel), variantAdmitted κ s →
    0 < w.toInt → 0 < h.toInt →
    ¬(0 ≤ x.toInt ∧ 0 ≤ y.toInt ∧ x.toInt + w.toInt ≤ (Config.board.variant κ).width.size ∧
      y.toInt + h.toInt ≤ (Config.board.variant κ).height.size) →
    base.toNat + (w.toInt * h.toInt).toNat ≤ 2 ^ 32 →
    (∀ k, k < (w.toInt * h.toInt).toNat → Memory.read s.buf (base.toNat + k) = some (px k)) →
    exec (.drawBitmap x y w h base) s =
      .next { afterEvents s
                ((List.range h.toInt.toNat).flatMap fun j => (List.range w.toInt.toNat).flatMap fun i =>
                  pixelPlacement Config.board (Config.board.variant κ) (px (j * w.toInt.toNat + i))
                    (x.toInt + i) (y.toInt + j)) with result := none }

/-- R136: DRAW_PIXEL inside the panel is a one-pixel window and a one-pixel flood; outside it is nothing. Its body is
the spec's decision D18 (log 18). -/
def Obligations.DrawPixelPlacesOnePixelOrNothing : Prop :=
  ∀ (s : State) (κ : Kind) (color : Pixel) (x y : Half), variantAdmitted κ s →
    exec (.drawPixel color x y) s =
      .next { afterEvents s (pixelPlacement Config.board (Config.board.variant κ) color x.toInt y.toInt) with
              result := none } ∧
    (x.toInt < 0 ∨ y.toInt < 0 ∨ (Config.board.variant κ).width.size ≤ x.toInt ∨
        (Config.board.variant κ).height.size ≤ y.toInt →
      exec (.drawPixel color x y) s = .next { s with result := none })

/-- R138: FILL_RECT that meets the panel sets the window of the part inside and floods its area. The clipping formula
is the spec's decision D23, exact arithmetic D7 (log 12, log 22). -/
def Obligations.FillRectFillsThePartInside : Prop :=
  ∀ (s : State) (κ : Kind) (color : Pixel) (x y w h : Half), variantAdmitted κ s →
    0 < w.toInt → 0 < h.toInt →
    x.toInt < (Config.board.variant κ).width.size → 0 ≤ x.toInt + w.toInt - 1 →
    y.toInt < (Config.board.variant κ).height.size → 0 ≤ y.toInt + h.toInt - 1 →
    let x1 := max x.toInt 0
    let x2 := min (x.toInt + w.toInt - 1) ((Config.board.variant κ).width.size - 1)
    let y1 := max y.toInt 0
    let y2 := min (y.toInt + h.toInt - 1) ((Config.board.variant κ).height.size - 1)
    exec (.fillRect color x y w h) s =
      .next { afterEvents s (windowFlood Config.board (Config.board.variant κ)
                (BitVec.ofInt 16 x1) (BitVec.ofInt 16 y1) (BitVec.ofInt 16 x2) (BitVec.ofInt 16 y2)
                color ((x2 - x1 + 1) * (y2 - y1 + 1)).toNat) with result := none }

/-- R139, R140: DRAW_FAST_HLINE and DRAW_FAST_VLINE that meet the panel set the window of the part inside and flood it.
The operand list is the spec's decision D6, the clipping formula D23 (log 12, log 22). -/
def Obligations.FastLinesFillThePartInside : Prop :=
  ∀ (s : State) (κ : Kind) (color : Pixel) (x y len : Half), variantAdmitted κ s → 0 < len.toInt →
    (x.toInt < (Config.board.variant κ).width.size → 0 ≤ x.toInt + len.toInt - 1 →
      0 ≤ y.toInt → y.toInt < (Config.board.variant κ).height.size →
      let x1 := max x.toInt 0
      let x2 := min (x.toInt + len.toInt - 1) ((Config.board.variant κ).width.size - 1)
      exec (.drawFastHLine color x y len) s =
        .next { afterEvents s (windowFlood Config.board (Config.board.variant κ)
                  (BitVec.ofInt 16 x1) y (BitVec.ofInt 16 x2) y color (x2 - x1 + 1).toNat) with
                result := none }) ∧
    (y.toInt < (Config.board.variant κ).height.size → 0 ≤ y.toInt + len.toInt - 1 →
      0 ≤ x.toInt → x.toInt < (Config.board.variant κ).width.size →
      let y1 := max y.toInt 0
      let y2 := min (y.toInt + len.toInt - 1) ((Config.board.variant κ).height.size - 1)
      exec (.drawFastVLine color x y len) s =
        .next { afterEvents s (windowFlood Config.board (Config.board.variant κ)
                  x (BitVec.ofInt 16 y1) x (BitVec.ofInt 16 y2) color (y2 - y1 + 1).toNat) with
                result := none })

/-- R139, R140: a fast line is exactly FILL_RECT of height 1 or of width 1, in every state, refusals included. -/
def Obligations.FastLinesAreThinRectangles : Prop :=
  ∀ (s : State) (color : Pixel) (x y len : Half),
    exec (.drawFastHLine color x y len) s = exec (.fillRect color x y len 1) s ∧
    exec (.drawFastVLine color x y len) s = exec (.fillRect color x y 1 len) s

/-- R142, R152: a request that is empty or wholly off-screen emits no event and writes no state, in all five drawing
operations, and completes. -/
def Obligations.OffScreenRequestsAreSilent : Prop :=
  ∀ (s : State) (κ : Kind) (color : Pixel) (x y w h : Half) (base : Word), variantAdmitted κ s →
    let W : Int := (Config.board.variant κ).width.size
    let H : Int := (Config.board.variant κ).height.size
    (w.toInt ≤ 0 ∨ h.toInt ≤ 0 ∨ W ≤ x.toInt ∨ x.toInt + w.toInt - 1 < 0 ∨ H ≤ y.toInt ∨
        y.toInt + h.toInt - 1 < 0 →
      exec (.fillRect color x y w h) s = .next { s with result := none }) ∧
    (w.toInt ≤ 0 ∨ W ≤ x.toInt ∨ x.toInt + w.toInt - 1 < 0 ∨ y.toInt < 0 ∨ H ≤ y.toInt →
      exec (.drawFastHLine color x y w) s = .next { s with result := none }) ∧
    (h.toInt ≤ 0 ∨ H ≤ y.toInt ∨ y.toInt + h.toInt - 1 < 0 ∨ x.toInt < 0 ∨ W ≤ x.toInt →
      exec (.drawFastVLine color x y h) s = .next { s with result := none }) ∧
    (x.toInt < 0 ∨ y.toInt < 0 ∨ W ≤ x.toInt ∨ H ≤ y.toInt →
      exec (.drawPixel color x y) s = .next { s with result := none }) ∧
    (w.toInt ≤ 0 ∨ h.toInt ≤ 0 → exec (.drawBitmap x y w h base) s = .next { s with result := none }) ∧
    (0 < w.toInt → 0 < h.toInt →
      W ≤ x.toInt ∨ x.toInt + w.toInt - 1 < 0 ∨ H ≤ y.toInt ∨ y.toInt + h.toInt - 1 < 0 →
      base.toNat + (w.toInt * h.toInt).toNat ≤ 2 ^ 32 →
      (∀ k, k < (w.toInt * h.toInt).toNat → Memory.read s.buf (base.toNat + k) ≠ none) →
      exec (.drawBitmap x y w h base) s = .next { s with result := none })

/-- R141: `clip` answers exactly the part of [a, a + n - 1] that lies in [0, L - 1], and none where that part is empty.
The formula is the spec's decision D23 (log 22). -/
def Obligations.ClipIsTheIntersection : Prop :=
  ∀ a n limit : Int, 1 ≤ limit →
    (∀ x y, clip a n limit = some (x, y) →
      0 ≤ x ∧ x ≤ y ∧ y ≤ limit - 1 ∧
      ∀ c, (x ≤ c ∧ c ≤ y) ↔ (a ≤ c ∧ c ≤ a + n - 1 ∧ 0 ≤ c ∧ c ≤ limit - 1)) ∧
    (clip a n limit = none ↔ ∀ c, ¬(a ≤ c ∧ c ≤ a + n - 1 ∧ 0 ≤ c ∧ c ≤ limit - 1))

/-- R144: the five composite drawing operations only ever set windows with 0 <= x1 <= x2 < W and 0 <= y1 <= y2 < H: two
variants that differ in no such window, nor in geometry and preamble, are drawn on alike. DRAW_PIXEL's body is the
spec's decision D18, clipping D23, a bitmap's slow path D19 (log 18, log 22, log 19). -/
def Obligations.CompositeDrawingUsesOnlyValidWindows : Prop :=
  ∀ (cfg : Config) (v v' : VariantRecord), v.width = v'.width → v.height = v'.height →
    v.gramWrite = v'.gramWrite →
    (∀ x1 y1 x2 y2 : Half, x1.toNat ≤ x2.toNat → x2.toNat < v.width.size → y1.toNat ≤ y2.toNat →
      y2.toNat < v.height.size → v.windowSeq x1 y1 x2 y2 = v'.windowSeq x1 y1 x2 y2) →
    ∀ (color : Pixel) (x y w h : Half) (ps : List Pixel) (s : State),
      fillBody cfg v color x.toInt y.toInt w.toInt h.toInt s
        = fillBody cfg v' color x.toInt y.toInt w.toInt h.toInt s ∧
      hlineBody cfg v color x.toInt y.toInt w.toInt s = hlineBody cfg v' color x.toInt y.toInt w.toInt s ∧
      vlineBody cfg v color x.toInt y.toInt h.toInt s = vlineBody cfg v' color x.toInt y.toInt h.toInt s ∧
      pixelBody cfg v color x.toInt y.toInt s = pixelBody cfg v' color x.toInt y.toInt s ∧
      (0 < w.toInt → 0 < h.toInt →
        bitmapBody cfg v x.toInt y.toInt w.toInt h.toInt ps s
          = bitmapBody cfg v' x.toInt y.toInt w.toInt h.toInt ps s)

/-! ### Every operation -/

/-- R154, R155, R161: an operation is refused exactly where a reason of R155 applies, with the first that applies, and
completes everywhere else. What a false assumption leads to is the spec's decision D8 (log 7, log 30), the lifecycle D16
(log 16). That SPAWN asks nothing of CS and DIR follows R110, where R24 reads otherwise (log 34). -/
def Obligations.RefusedExactlyForTheFirstReason : Prop :=
  ∀ (i : Instr) (s : State),
    (∀ r, exec i s = .refused r ↔
      reasonApplies r i s ∧ ∀ r', reasonApplies r' i s → reasonRank r ≤ reasonRank r') ∧
    ((∀ r, ¬ reasonApplies r i s) → ∃ t, exec i s = .next t)

/-- R25, R161: before the first RESET every other operation is refused NotConfigured, and RESET completes. PHASE and
its power-on value are the spec's decision D4 (log 8). -/
def Obligations.OnlyResetIsAdmittedUnconfigured : Prop :=
  ∀ (i : Instr) (s : State), s.phase = .unconfigured →
    (i ≠ .reset → exec i s = .refused .notConfigured) ∧ (i = .reset → ∃ t, exec i s = .next t)

/-- R32: every operation of files 41, 42 and 43 except WRITE_COMMAND keeps the bus at rest. -/
def Obligations.CompleteOperationsKeepTheBusAtRest : Prop :=
  ∀ (i : Instr) (s t : State), admissionClass i ≠ .busSignal → (∀ cmd, i ≠ .writeCommand cmd) →
    busAtRest s → exec i s = .next t → busAtRest t

/-- R9, R21, R22, R24: an operation appends events, and the latches end as those events drive them: no latch changes
without its event, and none keeps a level its events changed. -/
def Obligations.EveryLatchChangeIsAnEvent : Prop :=
  ∀ (i : Instr) (s t : State), exec i s = .next t →
    ∃ ev : List Event, t.trace = s.trace ++ ev ∧ latchesOf t = ev.foldl latchStep (latchesOf s)

/-- R20's column "Written by", for what is no pin: only SPAWN writes KIND, only RESET writes PHASE, and no operation
writes BUF or the host's list; RST is RESET's. -/
def Obligations.OnlyTheNamedWritersWriteState : Prop :=
  ∀ (i : Instr) (s t : State), exec i s = .next t →
    ((∀ id, i ≠ .spawn id) → t.kind = s.kind) ∧ (i ≠ .reset → t.phase = s.phase ∧ t.rst = s.rst) ∧
    t.buf = s.buf ∧ t.pending = s.pending

/-- R24: of the operations only SET_DIR_READ leaves DIR other than Write where it was Write, and a composite operation
is admitted in Write and leaves Write. (SPAWN touches no pin and asks nothing of DIR: R110; log 34.) -/
def Obligations.DirectionIsBackAtWrite : Prop :=
  ∀ (i : Instr) (s t : State), exec i s = .next t →
    (s.dir = some .write → i ≠ .setDirRead → t.dir = some .write) ∧
    (admissionClass i = .register ∨ admissionClass i = .variant → s.dir = some .write ∧ t.dir = some .write) ∧
    (i = .reset → t.dir = some .write)

/-- R68: exactly the five operations of R67's Result column return a word. The result word is the spec's decision D20
(log 2, log 20). -/
def Obligations.ExactlyFiveOperationsReturnAWord : Prop :=
  ∀ (i : Instr) (s t : State), exec i s = .next t →
    (t.result ≠ none ↔
      i = .readByte ∨ (∃ a, i = .readReg16 a) ∨ (∃ a, i = .readReg32 a) ∨ i = .readId ∨ ∃ id, i = .spawn id)

/-! ### Steps and runs -/

/-- R27, R64, R69: a step takes the host's next act: an operation that decodes is run, one that does not is refused with
no event; a change of BUF changes BUF alone; with no act left the block idles. The host's list is the model's own
(log 3). -/
def Obligations.StepRunsTheDecodedOperation : Prop :=
  ∀ (s : State) (rest : List HostAct),
    (∀ d i, decode d = .ok i → step { s with pending := .issue d :: rest } = exec i { s with pending := rest }) ∧
    (∀ d e, decode d = .error e → step { s with pending := .issue d :: rest } = .refused .badDescriptor) ∧
    (∀ a p, step { s with pending := .bufStore a p :: rest } =
      .next { s with pending := rest, buf := Memory.write s.buf a.toNat p }) ∧
    (∀ a, step { s with pending := .bufRelease a :: rest } =
      .next { s with pending := rest, buf := Memory.erase s.buf a.toNat }) ∧
    step { s with pending := [] } = .next { s with pending := [] }

/-- R33, R170: power-on. The values are the spec's decision D4 (log 8). -/
def Obligations.PowerOnHoldsNoValue : Prop :=
  State.reset.phase = .unconfigured ∧ State.reset.kind = .none ∧ pinsUnset State.reset ∧
    State.reset.trace = [] ∧ modeOf State.reset = some .unconfigured

/-- Power-on meets the invariants of the next three statements (R170; D4, log 8). -/
def Obligations.PowerOnMeetsTheInvariants : Prop :=
  Inv State.reset ∧ traceAgrees State.reset ∧ quietFrom none State.reset.trace = true

/-- R32, R33, R160: every step keeps the invariant: a legal mode, the pins as the phase says with both strobes idle and
the reset line high where it is wired, BUF in canonical form. The modes are the spec's decision D16 (log 16), BUF's
form the model's (log 4). -/
def Obligations.EveryStepKeepsTheInvariant : Prop :=
  ∀ s t : State, Inv s → step s = .next t → Inv t

/-- R9, R21, R22, R24: in every step the trace goes on saying what each latch holds. -/
def Obligations.EveryStepKeepsTraceAndLatchesAgreeing : Prop :=
  ∀ s t : State, traceAgrees s → step s = .next t → traceAgrees t

/-- R59, R90: no step ever lowers RD while the block drives the pins, nor strobes a write while it does not. That the
offending requests are refused is the spec's decision D8 (log 7). -/
def Obligations.EveryStepKeepsTheBusFreeOfContention : Prop :=
  ∀ s t : State, traceAgrees s → quietFrom none s.trace = true → step s = .next t →
    quietFrom none t.trace = true

/-- R52: a step only appends to the trace, and so does a whole run, refusals included. -/
def Obligations.EventsHappenInProgramOrder : Prop :=
  (∀ s t : State, step s = .next t → s.trace <+: t.trace) ∧
  (∀ (acts : List HostAct) (r : Run), r.state.trace <+: (runActs r acts).state.trace)

/-- R160: how a step may change the lifecycle mode: Unconfigured to Probing, Probing to Ready or Unsupported, and no
other way. The modes are the spec's decision D16 (log 16). -/
def Obligations.ModesOnlyAdvance : Prop :=
  ∀ (s t : State) (m : Mode), modeOf s = some m → step s = .next t →
    ∃ m', modeOf t = some m' ∧
      (m' = m ∨ (m = .unconfigured ∧ m' = .probing) ∨ (m = .probing ∧ (m' = .ready ∨ m' = .unsupported)))

/-- R26: once KIND is not none no step changes it, and no run does. That RESET keeps it is the spec's decision D16
(log 16). -/
def Obligations.KindIsSelectedOnce : Prop :=
  (∀ s t : State, s.kind ≠ .none → step s = .next t → t.kind = s.kind) ∧
  (∀ (acts : List HostAct) (r : Run), r.state.kind ≠ .none → (runActs r acts).state.kind = r.state.kind)

/-- R151, R161: with KIND = Unsupported no run, of any length and through any refusals, strobes the bus again, by WR or by
RD (R12), or leaves that state. The enforcement is the spec's decision D16 (log 16). -/
def Obligations.UnsupportedPanelIsNeverWrittenAgain : Prop :=
  ∀ (acts : List HostAct) (r : Run), r.state.kind = .unsupported →
    ∃ ev : List Event, (runActs r acts).state.trace = r.state.trace ++ ev ∧
      (∀ e ∈ ev, isStrobe e = false) ∧ (runActs r acts).state.kind = .unsupported

/-- R154: a refused act leaves the state of a run as it was and sets its mark, an act that completes keeps the mark, and
the mark is never cleared. Refusal is the spec's decision D8 (log 7). -/
def Obligations.RefusalMarksTheRunForGood : Prop :=
  (∀ (r : Run) (a : HostAct) (why : Refusal), takeAct a r.state = .refused why →
    runAct r a = { state := r.state, refused := true }) ∧
  (∀ (r : Run) (a : HostAct) (t : State), takeAct a r.state = .next t →
    runAct r a = { state := t, refused := r.refused }) ∧
  (∀ (acts : List HostAct) (r : Run), r.refused = true → (runActs r acts).refused = true)

/-! ### Encoding -/

/-- R64 to R66: decoding the encoding of any operation gives it back, with every operand at every value. The encoding
is the spec's decision D20 (log 20). -/
def Obligations.DecodeOfEncodeIsTheOperation : Prop :=
  ∀ i : Instr, decode (encode i) = .ok i

/-- R64, R65, R69: a descriptor that decodes is the encoding of what it decodes to, so each operation has one. The
encoding is the spec's decision D20 (log 20). -/
def Obligations.EveryOperationHasOneDescriptor : Prop :=
  ∀ (d : List Word) (i : Instr), decode d = .ok i → encode i = d

/-- R65, R69, R70: the decoder accepts exactly the descriptors that the table of match and mask accepts. The encoding
is the spec's decision D20 (log 20). -/
def Obligations.DecoderAcceptsExactlyTheFormats : Prop :=
  ∀ d : List Word, (∃ i, decode d = .ok i) ↔ wellFormed d = true

/-- R65, R67: one descriptor of each family, written out from the formats, and one of each kind that R69 refuses (D20,
log 20). -/
def Obligations.SampleDescriptorsDecodeAsWritten : Prop :=
  decode [0x150000F8#32] = .ok (.writeByte 0xF8#8) ∧
  decode [0x230000B9#32, 0x00FF8357#32] = .ok (.writeReg24 0x00B9#16 0xFF8357#24) ∧
  decode [0x32007789#32] = .ok (.spawn 0x7789#16) ∧
  decode [0x42010000#32, 0x00000002#32, 0x00000007#32] = .ok (.pushColors true 2 7) ∧
  decode [0x4500F800#32, 0xFFFB000A#32, 0x00140008#32] =
    .ok (.fillRect 0xF800#16 (BitVec.ofInt 16 (-5)) 10 20 8) ∧
  decode [0x19000000#32] = .error .unknownOpcode ∧ decode [0x15000100#32] = .error .reservedBit ∧
  decode [0x21000036#32, 0x00000148#32] = .error .dataTooWide ∧ decode [0x21000036#32] = .error .wordCount
end

