-- ==== Sys2Proof/Laws/State.lean ====
section
/-! SUPPORT. One lemma per field of `State` and shared update of it (spec/10_state.md R20), each true by `rfl`:
no later proof unfolds a record update. -/

namespace Sys2Proof.Machine

/-! ### `emit` -/

@[simp] theorem emit_phase (e : Event) (s : State) : (emit e s).phase = s.phase := rfl
@[simp] theorem emit_dir (e : Event) (s : State) : (emit e s).dir = s.dir := rfl
@[simp] theorem emit_cs (e : Event) (s : State) : (emit e s).cs = s.cs := rfl
@[simp] theorem emit_cd (e : Event) (s : State) : (emit e s).cd = s.cd := rfl
@[simp] theorem emit_wr (e : Event) (s : State) : (emit e s).wr = s.wr := rfl
@[simp] theorem emit_rd (e : Event) (s : State) : (emit e s).rd = s.rd := rfl
@[simp] theorem emit_rst (e : Event) (s : State) : (emit e s).rst = s.rst := rfl
@[simp] theorem emit_dout (e : Event) (s : State) : (emit e s).dout = s.dout := rfl
@[simp] theorem emit_kind (e : Event) (s : State) : (emit e s).kind = s.kind := rfl
@[simp] theorem emit_trace (e : Event) (s : State) : (emit e s).trace = s.trace ++ [e] := rfl
@[simp] theorem emit_result (e : Event) (s : State) : (emit e s).result = s.result := rfl
@[simp] theorem emit_buf (e : Event) (s : State) : (emit e s).buf = s.buf := rfl
@[simp] theorem emit_pending (e : Event) (s : State) : (emit e s).pending = s.pending := rfl

/-! ### `driveCs` -/

@[simp] theorem driveCs_phase (b : Level) (s : State) : (driveCs b s).phase = s.phase := rfl
@[simp] theorem driveCs_dir (b : Level) (s : State) : (driveCs b s).dir = s.dir := rfl
@[simp] theorem driveCs_cs (b : Level) (s : State) : (driveCs b s).cs = some b := rfl
@[simp] theorem driveCs_cd (b : Level) (s : State) : (driveCs b s).cd = s.cd := rfl
@[simp] theorem driveCs_wr (b : Level) (s : State) : (driveCs b s).wr = s.wr := rfl
@[simp] theorem driveCs_rd (b : Level) (s : State) : (driveCs b s).rd = s.rd := rfl
@[simp] theorem driveCs_rst (b : Level) (s : State) : (driveCs b s).rst = s.rst := rfl
@[simp] theorem driveCs_dout (b : Level) (s : State) : (driveCs b s).dout = s.dout := rfl
@[simp] theorem driveCs_kind (b : Level) (s : State) : (driveCs b s).kind = s.kind := rfl
@[simp] theorem driveCs_trace (b : Level) (s : State) : (driveCs b s).trace = s.trace ++ [.cs b] := rfl
@[simp] theorem driveCs_result (b : Level) (s : State) : (driveCs b s).result = s.result := rfl
@[simp] theorem driveCs_buf (b : Level) (s : State) : (driveCs b s).buf = s.buf := rfl
@[simp] theorem driveCs_pending (b : Level) (s : State) : (driveCs b s).pending = s.pending := rfl

/-! ### `driveCd` -/

@[simp] theorem driveCd_phase (b : Level) (s : State) : (driveCd b s).phase = s.phase := rfl
@[simp] theorem driveCd_dir (b : Level) (s : State) : (driveCd b s).dir = s.dir := rfl
@[simp] theorem driveCd_cs (b : Level) (s : State) : (driveCd b s).cs = s.cs := rfl
@[simp] theorem driveCd_cd (b : Level) (s : State) : (driveCd b s).cd = some b := rfl
@[simp] theorem driveCd_wr (b : Level) (s : State) : (driveCd b s).wr = s.wr := rfl
@[simp] theorem driveCd_rd (b : Level) (s : State) : (driveCd b s).rd = s.rd := rfl
@[simp] theorem driveCd_rst (b : Level) (s : State) : (driveCd b s).rst = s.rst := rfl
@[simp] theorem driveCd_dout (b : Level) (s : State) : (driveCd b s).dout = s.dout := rfl
@[simp] theorem driveCd_kind (b : Level) (s : State) : (driveCd b s).kind = s.kind := rfl
@[simp] theorem driveCd_trace (b : Level) (s : State) : (driveCd b s).trace = s.trace ++ [.cd b] := rfl
@[simp] theorem driveCd_result (b : Level) (s : State) : (driveCd b s).result = s.result := rfl
@[simp] theorem driveCd_buf (b : Level) (s : State) : (driveCd b s).buf = s.buf := rfl
@[simp] theorem driveCd_pending (b : Level) (s : State) : (driveCd b s).pending = s.pending := rfl

/-! ### `driveWr` -/

@[simp] theorem driveWr_phase (b : Level) (s : State) : (driveWr b s).phase = s.phase := rfl
@[simp] theorem driveWr_dir (b : Level) (s : State) : (driveWr b s).dir = s.dir := rfl
@[simp] theorem driveWr_cs (b : Level) (s : State) : (driveWr b s).cs = s.cs := rfl
@[simp] theorem driveWr_cd (b : Level) (s : State) : (driveWr b s).cd = s.cd := rfl
@[simp] theorem driveWr_wr (b : Level) (s : State) : (driveWr b s).wr = some b := rfl
@[simp] theorem driveWr_rd (b : Level) (s : State) : (driveWr b s).rd = s.rd := rfl
@[simp] theorem driveWr_rst (b : Level) (s : State) : (driveWr b s).rst = s.rst := rfl
@[simp] theorem driveWr_dout (b : Level) (s : State) : (driveWr b s).dout = s.dout := rfl
@[simp] theorem driveWr_kind (b : Level) (s : State) : (driveWr b s).kind = s.kind := rfl
@[simp] theorem driveWr_trace (b : Level) (s : State) : (driveWr b s).trace = s.trace ++ [.wr b] := rfl
@[simp] theorem driveWr_result (b : Level) (s : State) : (driveWr b s).result = s.result := rfl
@[simp] theorem driveWr_buf (b : Level) (s : State) : (driveWr b s).buf = s.buf := rfl
@[simp] theorem driveWr_pending (b : Level) (s : State) : (driveWr b s).pending = s.pending := rfl

/-! ### `driveRd` -/

@[simp] theorem driveRd_phase (b : Level) (s : State) : (driveRd b s).phase = s.phase := rfl
@[simp] theorem driveRd_dir (b : Level) (s : State) : (driveRd b s).dir = s.dir := rfl
@[simp] theorem driveRd_cs (b : Level) (s : State) : (driveRd b s).cs = s.cs := rfl
@[simp] theorem driveRd_cd (b : Level) (s : State) : (driveRd b s).cd = s.cd := rfl
@[simp] theorem driveRd_wr (b : Level) (s : State) : (driveRd b s).wr = s.wr := rfl
@[simp] theorem driveRd_rd (b : Level) (s : State) : (driveRd b s).rd = some b := rfl
@[simp] theorem driveRd_rst (b : Level) (s : State) : (driveRd b s).rst = s.rst := rfl
@[simp] theorem driveRd_dout (b : Level) (s : State) : (driveRd b s).dout = s.dout := rfl
@[simp] theorem driveRd_kind (b : Level) (s : State) : (driveRd b s).kind = s.kind := rfl
@[simp] theorem driveRd_trace (b : Level) (s : State) : (driveRd b s).trace = s.trace ++ [.rd b] := rfl
@[simp] theorem driveRd_result (b : Level) (s : State) : (driveRd b s).result = s.result := rfl
@[simp] theorem driveRd_buf (b : Level) (s : State) : (driveRd b s).buf = s.buf := rfl
@[simp] theorem driveRd_pending (b : Level) (s : State) : (driveRd b s).pending = s.pending := rfl

/-! ### `driveRst` -/

@[simp] theorem driveRst_phase (b : Level) (s : State) : (driveRst b s).phase = s.phase := rfl
@[simp] theorem driveRst_dir (b : Level) (s : State) : (driveRst b s).dir = s.dir := rfl
@[simp] theorem driveRst_cs (b : Level) (s : State) : (driveRst b s).cs = s.cs := rfl
@[simp] theorem driveRst_cd (b : Level) (s : State) : (driveRst b s).cd = s.cd := rfl
@[simp] theorem driveRst_wr (b : Level) (s : State) : (driveRst b s).wr = s.wr := rfl
@[simp] theorem driveRst_rd (b : Level) (s : State) : (driveRst b s).rd = s.rd := rfl
@[simp] theorem driveRst_rst (b : Level) (s : State) : (driveRst b s).rst = some b := rfl
@[simp] theorem driveRst_dout (b : Level) (s : State) : (driveRst b s).dout = s.dout := rfl
@[simp] theorem driveRst_kind (b : Level) (s : State) : (driveRst b s).kind = s.kind := rfl
@[simp] theorem driveRst_trace (b : Level) (s : State) : (driveRst b s).trace = s.trace ++ [.rst b] := rfl
@[simp] theorem driveRst_result (b : Level) (s : State) : (driveRst b s).result = s.result := rfl
@[simp] theorem driveRst_buf (b : Level) (s : State) : (driveRst b s).buf = s.buf := rfl
@[simp] theorem driveRst_pending (b : Level) (s : State) : (driveRst b s).pending = s.pending := rfl

/-! ### `setDir` -/

@[simp] theorem setDir_phase (d : Dir) (s : State) : (setDir d s).phase = s.phase := rfl
@[simp] theorem setDir_dir (d : Dir) (s : State) : (setDir d s).dir = some d := rfl
@[simp] theorem setDir_cs (d : Dir) (s : State) : (setDir d s).cs = s.cs := rfl
@[simp] theorem setDir_cd (d : Dir) (s : State) : (setDir d s).cd = s.cd := rfl
@[simp] theorem setDir_wr (d : Dir) (s : State) : (setDir d s).wr = s.wr := rfl
@[simp] theorem setDir_rd (d : Dir) (s : State) : (setDir d s).rd = s.rd := rfl
@[simp] theorem setDir_rst (d : Dir) (s : State) : (setDir d s).rst = s.rst := rfl
@[simp] theorem setDir_dout (d : Dir) (s : State) : (setDir d s).dout = s.dout := rfl
@[simp] theorem setDir_kind (d : Dir) (s : State) : (setDir d s).kind = s.kind := rfl
@[simp] theorem setDir_trace (d : Dir) (s : State) : (setDir d s).trace = s.trace ++ [.dir d] := rfl
@[simp] theorem setDir_result (d : Dir) (s : State) : (setDir d s).result = s.result := rfl
@[simp] theorem setDir_buf (d : Dir) (s : State) : (setDir d s).buf = s.buf := rfl
@[simp] theorem setDir_pending (d : Dir) (s : State) : (setDir d s).pending = s.pending := rfl

/-! ### `loadDout` -/

@[simp] theorem loadDout_phase (v : Byte) (s : State) : (loadDout v s).phase = s.phase := rfl
@[simp] theorem loadDout_dir (v : Byte) (s : State) : (loadDout v s).dir = s.dir := rfl
@[simp] theorem loadDout_cs (v : Byte) (s : State) : (loadDout v s).cs = s.cs := rfl
@[simp] theorem loadDout_cd (v : Byte) (s : State) : (loadDout v s).cd = s.cd := rfl
@[simp] theorem loadDout_wr (v : Byte) (s : State) : (loadDout v s).wr = s.wr := rfl
@[simp] theorem loadDout_rd (v : Byte) (s : State) : (loadDout v s).rd = s.rd := rfl
@[simp] theorem loadDout_rst (v : Byte) (s : State) : (loadDout v s).rst = s.rst := rfl
@[simp] theorem loadDout_dout (v : Byte) (s : State) : (loadDout v s).dout = some v := rfl
@[simp] theorem loadDout_kind (v : Byte) (s : State) : (loadDout v s).kind = s.kind := rfl
@[simp] theorem loadDout_trace (v : Byte) (s : State) : (loadDout v s).trace = s.trace ++ [.dout v] := rfl
@[simp] theorem loadDout_result (v : Byte) (s : State) : (loadDout v s).result = s.result := rfl
@[simp] theorem loadDout_buf (v : Byte) (s : State) : (loadDout v s).buf = s.buf := rfl
@[simp] theorem loadDout_pending (v : Byte) (s : State) : (loadDout v s).pending = s.pending := rfl

/-! ### `delay` -/

@[simp] theorem delay_phase (k : DelayKind) (s : State) : (delay k s).phase = s.phase := rfl
@[simp] theorem delay_dir (k : DelayKind) (s : State) : (delay k s).dir = s.dir := rfl
@[simp] theorem delay_cs (k : DelayKind) (s : State) : (delay k s).cs = s.cs := rfl
@[simp] theorem delay_cd (k : DelayKind) (s : State) : (delay k s).cd = s.cd := rfl
@[simp] theorem delay_wr (k : DelayKind) (s : State) : (delay k s).wr = s.wr := rfl
@[simp] theorem delay_rd (k : DelayKind) (s : State) : (delay k s).rd = s.rd := rfl
@[simp] theorem delay_rst (k : DelayKind) (s : State) : (delay k s).rst = s.rst := rfl
@[simp] theorem delay_dout (k : DelayKind) (s : State) : (delay k s).dout = s.dout := rfl
@[simp] theorem delay_kind (k : DelayKind) (s : State) : (delay k s).kind = s.kind := rfl
@[simp] theorem delay_trace (k : DelayKind) (s : State) : (delay k s).trace = s.trace ++ [.delay k] := rfl
@[simp] theorem delay_result (k : DelayKind) (s : State) : (delay k s).result = s.result := rfl
@[simp] theorem delay_buf (k : DelayKind) (s : State) : (delay k s).buf = s.buf := rfl
@[simp] theorem delay_pending (k : DelayKind) (s : State) : (delay k s).pending = s.pending := rfl

/-! ### `returns` -/

@[simp] theorem returns_phase (v : Word) (s : State) : (returns v s).phase = s.phase := rfl
@[simp] theorem returns_dir (v : Word) (s : State) : (returns v s).dir = s.dir := rfl
@[simp] theorem returns_cs (v : Word) (s : State) : (returns v s).cs = s.cs := rfl
@[simp] theorem returns_cd (v : Word) (s : State) : (returns v s).cd = s.cd := rfl
@[simp] theorem returns_wr (v : Word) (s : State) : (returns v s).wr = s.wr := rfl
@[simp] theorem returns_rd (v : Word) (s : State) : (returns v s).rd = s.rd := rfl
@[simp] theorem returns_rst (v : Word) (s : State) : (returns v s).rst = s.rst := rfl
@[simp] theorem returns_dout (v : Word) (s : State) : (returns v s).dout = s.dout := rfl
@[simp] theorem returns_kind (v : Word) (s : State) : (returns v s).kind = s.kind := rfl
@[simp] theorem returns_trace (v : Word) (s : State) : (returns v s).trace = s.trace := rfl
@[simp] theorem returns_result (v : Word) (s : State) : (returns v s).result = some v := rfl
@[simp] theorem returns_buf (v : Word) (s : State) : (returns v s).buf = s.buf := rfl
@[simp] theorem returns_pending (v : Word) (s : State) : (returns v s).pending = s.pending := rfl

/-! ### `clearResult` -/

@[simp] theorem clearResult_phase (s : State) : (clearResult s).phase = s.phase := rfl
@[simp] theorem clearResult_dir (s : State) : (clearResult s).dir = s.dir := rfl
@[simp] theorem clearResult_cs (s : State) : (clearResult s).cs = s.cs := rfl
@[simp] theorem clearResult_cd (s : State) : (clearResult s).cd = s.cd := rfl
@[simp] theorem clearResult_wr (s : State) : (clearResult s).wr = s.wr := rfl
@[simp] theorem clearResult_rd (s : State) : (clearResult s).rd = s.rd := rfl
@[simp] theorem clearResult_rst (s : State) : (clearResult s).rst = s.rst := rfl
@[simp] theorem clearResult_dout (s : State) : (clearResult s).dout = s.dout := rfl
@[simp] theorem clearResult_kind (s : State) : (clearResult s).kind = s.kind := rfl
@[simp] theorem clearResult_trace (s : State) : (clearResult s).trace = s.trace := rfl
@[simp] theorem clearResult_result (s : State) : (clearResult s).result = none := rfl
@[simp] theorem clearResult_buf (s : State) : (clearResult s).buf = s.buf := rfl
@[simp] theorem clearResult_pending (s : State) : (clearResult s).pending = s.pending := rfl

end Sys2Proof.Machine
end

