-- ==== Sys2Proof/Laws/Ops.lean ====
section
/-! SUPPORT. One lemma per shared operation that says all it does to the state, as a record update and the
events it appends: later proofs cite these and unfold none of the operations. -/

namespace Sys2Proof.Machine

/-! ### Strobes (spec/00_scope.md R11) -/

theorem strobeWrite_eq (s : State) :
    strobeWrite s = { s with wr := some 1, trace := s.trace ++ wsEvents } := by
  simp [strobeWrite, driveWr, delay, emit, wsEvents, strobeLow, strobeIdle]

theorem sendByte_eq (v : Byte) (s : State) :
    sendByte v s = { s with wr := some 1, dout := some v, trace := s.trace ++ wbEvents v } := by
  simp [sendByte, strobeWrite_eq, loadDout, emit, wsEvents, wbEvents]

/-- Bytes sent one after the other: DOUT ends as the last of them, and keeps its value where there is none. -/
theorem sendBytes_eq (bs : List Byte) (s : State) (h : bs ≠ []) :
    sendBytes bs s =
      { s with wr := some 1, dout := bs.getLast?, trace := s.trace ++ bs.flatMap wbEvents } := by
  induction bs generalizing s with
  | nil => exact absurd rfl h
  | cons b rest ih =>
    cases rest with
    | nil => simp [sendBytes, sendByte_eq]
    | cons c rest =>
      have := ih (sendByte b s) (by simp)
      simp only [sendBytes, List.foldl_cons] at this ⊢
      rw [this]
      simp [sendByte_eq, List.getLast?_cons_cons]

theorem recvByte_eq (cfg : Config) (s : State) :
    recvByte cfg s =
      (cfg.oracle (s.trace ++ [.rd 0, .delay .strobe]),
       { s with rd := some 1,
                trace := s.trace ++ rbEvents (cfg.oracle (s.trace ++ [.rd 0, .delay .strobe])) }) := by
  simp [recvByte, lowerRead, panelRead, finishRead, driveRd, delay, emit, rbEvents, strobeLow, strobeIdle]

/-- `n` reads see some `n` bytes, and change RD and the trace only. -/
theorem recvBytes_eq (cfg : Config) (n : Nat) (s : State) (h : 0 < n) :
    ∃ seen : List Byte, seen.length = n ∧
      recvBytes cfg n s =
        (seen, { s with rd := some 1, trace := s.trace ++ seen.flatMap rbEvents }) := by
  induction n generalizing s with
  | zero => omega
  | succ n ih =>
    cases n with
    | zero => exact ⟨[_], rfl, by simp [recvBytes, recvByte_eq]; exact ⟨rfl, rfl⟩⟩
    | succ n =>
      obtain ⟨seen, hl, he⟩ := ih (recvByte cfg s).2 (Nat.succ_pos n)
      refine ⟨(recvByte cfg s).1 :: seen, by simp [hl], ?_⟩
      rw [recvBytes, he]
      simp [recvByte_eq]

/-! ### Repetition -/

@[simp] theorem repeatTimes_zero (f : State → State) (s : State) : repeatTimes 0 f s = s := rfl

@[simp] theorem repeatTimes_succ (n : Nat) (f : State → State) (s : State) :
    repeatTimes (n + 1) f s = repeatTimes n f (f s) := rfl

/-! ### Frames (spec/30_encoding.md R60 to R62) -/

theorem commandBody_eq (cmd : Half) (s : State) :
    commandBody cmd s =
      { s with cs := some 0, cd := some cdCommand, wr := some 1, dout := some (cmd.extractLsb' 0 8),
               trace := s.trace ++ commandEvents cmd } := by
  simp [commandBody, sendByte_eq, driveCs, driveCd, emit, commandEvents, csActive, hiByte, loByte]

theorem writeRegBody_eq (addr : Half) (data : List Byte) (s : State) (h : data ≠ []) :
    writeRegBody addr data s =
      { s with cs := some 1, cd := some cdData, wr := some 1, dout := data.getLast?,
               trace := s.trace ++ writeFrame addr data } := by
  simp [writeRegBody, commandBody_eq, sendBytes_eq _ _ h, driveCs, driveCd, emit, csIdle, writeFrame]

theorem writePairBody_eq (aHigh aLow data : Half) (s : State) :
    writePairBody aHigh aLow data s =
      { s with cs := some 1, cd := some cdData, wr := some 1, dout := some (data.extractLsb' 0 8),
               trace := s.trace ++ writeFrame aHigh [data.extractLsb' 8 8]
                 ++ writeFrame aLow [data.extractLsb' 0 8] } := by
  simp [writePairBody, writeRegBody_eq, hiByte, loByte]

/-- A register read of `n` bytes sees some `n` bytes; its frame is R62's and the direction is back at Write. -/
theorem readRegBody_eq (cfg : Config) (addr : Half) (n : Nat) (s : State) (h : 0 < n) :
    ∃ seen : List Byte, seen.length = n ∧
      readRegBody cfg addr n s =
        (seen, { s with cs := some 1, cd := some cdData, wr := some 1, rd := some 1, dir := some .write,
                        dout := some (addr.extractLsb' 0 8), trace := s.trace ++ readFrame addr seen }) := by
  obtain ⟨seen, hl, he⟩ := recvBytes_eq cfg n (openRead addr s) h
  refine ⟨seen, hl, ?_⟩
  rw [readRegBody, he]
  simp [openRead, closeRead, commandBody_eq, driveCs, driveCd, setDir, delay, emit, readFrame, csIdle]

/-! ### Admission (spec/60_exceptions.md R154, R155) -/

@[simp] theorem admitting_nil (s : State) (k : State → Result) : admitting [] s k = k s := rfl

theorem admitting_cons (r : Requirement) (rest : List Requirement) (s : State) (k : State → Result) :
    admitting (r :: rest) s k = (match r s with | some why => .refused why | none => admitting rest s k) := rfl

/-- `admitting` goes on exactly where every requirement is met. -/
theorem admitting_of_met {reqs : List Requirement} {s : State} (h : ∀ r ∈ reqs, r s = none)
    (k : State → Result) : admitting reqs s k = k s := by
  induction reqs with
  | nil => rfl
  | cons r rest ih =>
    simp only [admitting, h r (List.mem_cons_self ..)]
    exact ih fun q hq => h q (List.mem_cons_of_mem _ hq)

/-- If `admitting` answers a next state, every requirement was met and the continuation gave that state. -/
theorem admitting_next {reqs : List Requirement} {s t : State} {k : State → Result}
    (h : admitting reqs s k = .next t) : (∀ r ∈ reqs, r s = none) ∧ k s = .next t := by
  induction reqs with
  | nil => exact ⟨by simp, h⟩
  | cons r rest ih =>
    simp only [admitting] at h
    split at h
    · cases h
    · next hr =>
      obtain ⟨h1, h2⟩ := ih h
      exact ⟨by simpa [hr] using h1, h2⟩

/-- If `perform` answers a next state, the operation was admitted and that state is its body's. -/
theorem perform_next {reqs : List Requirement} {body : State → State} {s t : State}
    (h : perform reqs body s = .next t) : (∀ r ∈ reqs, r s = none) ∧ t = body (clearResult s) := by
  obtain ⟨h1, h2⟩ := admitting_next h
  exact ⟨h1, by simpa using h2.symm⟩

/-- If a variant operation answers a next state, R130 held and its body gave that state. -/
theorem performVariant_next {cfg : Config} {k : VariantRecord → State → Result} {s t : State}
    (h : performVariant cfg k s = .next t) :
    ∃ κ, s.kind = .known κ ∧ s.phase = .configured ∧ s.cs = some csIdle ∧ s.dir = some .write ∧
      k (cfg.variant κ) (clearResult s) = .next t := by
  obtain ⟨h1, h2⟩ := admitting_next h
  simp only [withVariant] at h2
  split at h2
  · cases h2
  · cases h2
  · next κ hκ =>
    obtain ⟨h3, h4⟩ := admitting_next h2
    have hp : s.phase = .configured := by simpa [needConfigured] using h1 needConfigured (by simp)
    have hc : s.cs = some csIdle := by simpa [needCsIdle] using h3 needCsIdle (by simp)
    have hd : s.dir = some .write := by simpa [needDir] using h3 (needDir .write) (by simp)
    exact ⟨κ, hκ, hp, hc, hd, h4⟩

/-- Where R130 holds, a variant operation is its body. -/
theorem performVariant_of_met {cfg : Config} {k : VariantRecord → State → Result} {s : State} {κ : Kind}
    (hp : s.phase = .configured) (hk : s.kind = .known κ) (hc : s.cs = some csIdle)
    (hd : s.dir = some .write) :
    performVariant cfg k s = k (cfg.variant κ) (clearResult s) := by
  simp [performVariant, withVariant, admitting, needConfigured, needCsIdle, needDir, hp, hk, hc, hd]

/-- If `withCells` answers a next state, the range fits, the cells hold values, and those gave the state. -/
theorem withCells_next {base n : Nat} {s t : State} {k : List Pixel → Result}
    (h : withCells base n s k = .next t) :
    base + n ≤ 2 ^ 32 ∧ ∃ ps, Memory.readMany s.buf base n = some ps ∧ k ps = .next t := by
  simp only [withCells] at h
  split at h
  · next hr =>
    refine ⟨hr, ?_⟩
    split at h
    · next ps hps => exact ⟨ps, hps, h⟩
    · cases h
  · cases h

/-! ### Geometry and clipping (spec/10_state.md R29, spec/43_blit.md R141) -/

/-- A panel extent lies in 1 .. 32767. -/
theorem size_bounds (e : PanelExtent) : 1 ≤ e.size ∧ e.size ≤ 32767 := by
  have := e.pred.isLt
  simp only [PanelExtent.size]
  omega

/-- What `clip` answers where it answers a pair. -/
theorem clip_some {a n limit x y : Int} (h : clip a n limit = some (x, y)) :
    0 < n ∧ a < limit ∧ 0 ≤ a + n - 1 ∧ x = max a 0 ∧ y = min (a + n - 1) (limit - 1) := by
  simp only [clip] at h
  split at h
  · cases h
  · split at h
    · cases h
    · simp only [Option.some.injEq, Prod.mk.injEq] at h
      omega

/-- When `clip` answers nothing. -/
theorem clip_eq_none_iff (a n limit : Int) :
    clip a n limit = none ↔ n ≤ 0 ∨ a ≥ limit ∨ a + n - 1 < 0 := by
  simp only [clip]
  split
  · simp; omega
  · split <;> simp <;> omega

end Sys2Proof.Machine
end

