-- ==== Sys2Proof/Laws/Admission.lean ====
section
/-! SUPPORT. The families' requirements (spec/60_exceptions.md R155, R161) are met exactly in the states that
Safety.lean calls admitted. -/

namespace Sys2Proof.Machine

/-- Where every requirement is met, an operation is its body, run from a cleared result port. -/
theorem perform_of_met {reqs : List Requirement} {body : State → State} {s : State}
    (h : ∀ r ∈ reqs, r s = none) : perform reqs body s = .next (body (clearResult s)) := by
  simp [perform, admitting_of_met h]

theorem busSignalNeeds_met_iff (s : State) :
    (∀ r ∈ busSignalNeeds, r s = none) ↔ busSignalAdmitted s := by
  simp [busSignalNeeds, needConfigured, needSupported]

theorem needCsIdle_met_iff (s : State) : needCsIdle s = none ↔ s.cs = some 1 := by
  simp only [needCsIdle]
  split
  · next h => exact ⟨fun _ => h, fun _ => rfl⟩
  · next h => exact ⟨fun h0 => (by cases h0), fun h1 => absurd h1 h⟩

theorem registerNeeds_met_iff (s : State) :
    (∀ r ∈ registerNeeds, r s = none) ↔ registerAdmitted s := by
  simp [registerNeeds, needConfigured, needSupported, needDir, needCsIdle_met_iff, and_assoc]

/-- If a register operation answers a next state, R95 held and that state is its body's. -/
theorem perform_register_next {body : State → State} {s t : State}
    (h : perform registerNeeds body s = .next t) : registerAdmitted s ∧ t = body (clearResult s) := by
  obtain ⟨h1, h2⟩ := perform_next h
  exact ⟨(registerNeeds_met_iff s).1 h1, h2⟩

/-- If a BusSignal operation answers a next state, R80 held and that state is its body's. -/
theorem perform_busSignal_next {more : List Requirement} {body : State → State} {s t : State}
    (h : perform (busSignalNeeds ++ more) body s = .next t) :
    busSignalAdmitted s ∧ (∀ r ∈ more, r s = none) ∧ t = body (clearResult s) := by
  obtain ⟨h1, h2⟩ := perform_next h
  refine ⟨(busSignalNeeds_met_iff s).1 fun r hr => h1 r (List.mem_append_left _ hr), ?_, h2⟩
  exact fun r hr => h1 r (List.mem_append_right _ hr)

/-- If a variant operation answers a next state, R130 held and its body gave that state. -/
theorem performVariant_next_admitted {cfg : Config} {k : VariantRecord → State → Result} {s t : State}
    (h : performVariant cfg k s = .next t) :
    ∃ κ, variantAdmitted κ s ∧ k (cfg.variant κ) (clearResult s) = .next t := by
  obtain ⟨κ, hk, hp, hc, hd, h'⟩ := performVariant_next h
  exact ⟨κ, ⟨hp, hk, hc, hd⟩, h'⟩

/-- Where R130 holds, a variant operation is its body. -/
theorem performVariant_of_admitted {cfg : Config} {k : VariantRecord → State → Result} {s : State} {κ : Kind}
    (h : variantAdmitted κ s) : performVariant cfg k s = k (cfg.variant κ) (clearResult s) :=
  performVariant_of_met h.1 h.2.1 h.2.2.1 h.2.2.2

end Sys2Proof.Machine
end

