-- ==== Sys2Proof/Laws/Latches.lean ====
section
/-! SUPPORT. The latches follow the events (spec/10_state.md R21), part by part of a trace. -/

namespace Sys2Proof.Machine

@[simp] theorem afterEvents_nil (s : State) : afterEvents s [] = s := by
  simp [afterEvents, latchesOf]

@[simp] theorem latchesOf_afterEvents (s : State) (ev : List Event) :
    latchesOf (afterEvents s ev) = ev.foldl latchStep (latchesOf s) := rfl

@[simp] theorem afterEvents_trace (s : State) (ev : List Event) :
    (afterEvents s ev).trace = s.trace ++ ev := rfl

@[simp] theorem afterEvents_phase (s : State) (ev : List Event) : (afterEvents s ev).phase = s.phase := rfl
@[simp] theorem afterEvents_kind (s : State) (ev : List Event) : (afterEvents s ev).kind = s.kind := rfl
@[simp] theorem afterEvents_result (s : State) (ev : List Event) : (afterEvents s ev).result = s.result := rfl
@[simp] theorem afterEvents_buf (s : State) (ev : List Event) : (afterEvents s ev).buf = s.buf := rfl
@[simp] theorem afterEvents_pending (s : State) (ev : List Event) : (afterEvents s ev).pending = s.pending := rfl

/-- Two runs of events one after the other are their concatenation. -/
theorem afterEvents_append (s : State) (t u : List Event) :
    afterEvents s (t ++ u) = afterEvents (afterEvents s t) u := by
  simp [afterEvents, latchesOf, List.foldl_append]

theorem replay_append (t u : List Event) : replay (t ++ u) = u.foldl latchStep (replay t) := by
  simp [replay, List.foldl_append]

/-- A trace that agrees with the latches still does after any events. -/
theorem traceAgrees_afterEvents {s : State} (h : traceAgrees s) (ev : List Event) :
    traceAgrees (afterEvents s ev) := by
  simp [traceAgrees, replay_append] at h ⊢
  rw [h]

end Sys2Proof.Machine
end

