-- ==== Sys2Proof/Laws/Bodies.lean ====
section
/-! SUPPORT. What every body does, as the events it runs: `body s = afterEvents s events`. With these no later
proof unfolds a body; the latches and the trace follow from the events (Laws/Latches.lean). -/

namespace Sys2Proof.Machine

/-- A cleared result port is unaffected by events. -/
theorem afterEvents_clearResult (s : State) (ev : List Event) :
    afterEvents (clearResult s) ev = { afterEvents s ev with result := none } := rfl

/-! ### Strobes and frames -/

theorem strobeWrite_after (s : State) : strobeWrite s = afterEvents s wsEvents := by
  simp [strobeWrite_eq, afterEvents, wsEvents, latchStep, latchesOf]

theorem sendByte_after (v : Byte) (s : State) : sendByte v s = afterEvents s (wbEvents v) := by
  simp [sendByte_eq, afterEvents, wbEvents, latchStep, latchesOf]

theorem sendBytes_after (bs : List Byte) (s : State) :
    sendBytes bs s = afterEvents s (bs.flatMap wbEvents) := by
  induction bs generalizing s with
  | nil => simp [sendBytes]
  | cons b rest ih =>
    have := ih (sendByte b s)
    simp only [sendBytes, List.foldl_cons] at this ⊢
    rw [this, sendByte_after, ← afterEvents_append]
    rfl

theorem commandBody_after (cmd : Half) (s : State) :
    commandBody cmd s = afterEvents s (commandEvents cmd) := by
  simp [commandBody_eq, afterEvents, commandEvents, wbEvents, latchStep, latchesOf]

theorem driveCs_after (b : Level) (s : State) : driveCs b s = afterEvents s [.cs b] := rfl
theorem driveCd_after (b : Level) (s : State) : driveCd b s = afterEvents s [.cd b] := rfl
theorem setDir_after (d : Dir) (s : State) : setDir d s = afterEvents s [.dir d] := rfl
theorem delay_after (k : DelayKind) (s : State) : delay k s = afterEvents s [.delay k] := rfl

theorem writeRegBody_after (addr : Half) (data : List Byte) (s : State) :
    writeRegBody addr data s = afterEvents s (writeFrame addr data) := by
  simp only [writeRegBody, commandBody_after, driveCd_after, sendBytes_after, driveCs_after,
    ← afterEvents_append, writeFrame, csIdle]

theorem writePairBody_after (aHigh aLow data : Half) (s : State) :
    writePairBody aHigh aLow data s =
      afterEvents s (writeFrame aHigh [data.extractLsb' 8 8] ++ writeFrame aLow [data.extractLsb' 0 8]) := by
  simp only [writePairBody, writeRegBody_after, ← afterEvents_append, hiByte, loByte]

/-- A register read of `n` bytes sees some `n` bytes and runs R62's frame. -/
theorem readRegBody_after (cfg : Config) (addr : Half) (n : Nat) (s : State) (h : 0 < n) :
    ∃ seen : List Byte, seen.length = n ∧
      readRegBody cfg addr n s = (seen, afterEvents s (readFrame addr seen)) := by
  obtain ⟨seen, hl, he⟩ := recvBytes_eq cfg n (openRead addr s) h
  have hrd : ∀ bs : List Byte, ∀ u : State, bs ≠ [] →
      afterEvents u (bs.flatMap rbEvents) =
        { u with rd := some 1, trace := u.trace ++ bs.flatMap rbEvents } := by
    intro bs
    induction bs with
    | nil => intro u hb; exact absurd rfl hb
    | cons b rest ih =>
      intro u _
      rw [List.flatMap_cons, afterEvents_append]
      cases rest with
      | nil => simp [afterEvents, rbEvents, latchStep, latchesOf]
      | cons c rest =>
        rw [ih _ (by simp)]
        simp [afterEvents, rbEvents, latchStep, latchesOf]
  have hne : seen ≠ [] := by intro h0; simp [h0] at hl; omega
  refine ⟨seen, hl, ?_⟩
  rw [readRegBody, he, ← hrd seen _ hne]
  simp only [openRead, closeRead, commandBody_after, driveCs_after, driveCd_after, setDir_after, delay_after,
    ← afterEvents_append, readFrame, csIdle]
  simp

/-! ### Repetition -/

theorem repeatTimes_after {f : State → State} {ev : List Event} (h : ∀ s, f s = afterEvents s ev) (n : Nat)
    (s : State) : repeatTimes n f s = afterEvents s (List.replicate n ev).flatten := by
  induction n generalizing s with
  | zero => simp
  | succ n ih => rw [repeatTimes_succ, ih, h, ← afterEvents_append]; rfl

/-! ### Sequences and pixels -/

theorem playOp_after (op : RegOp) (s : State) : playOp op s = afterEvents s (regOpEvents op) := by
  cases op <;>
    simp [playOp, writeRegBody_after, writePairBody_after, delay_after, regOpEvents, bytesOf16, bytesOf24,
      bytesOf32, hiByte, loByte]

theorem playOps_after (ops : List RegOp) (s : State) :
    playOps ops s = afterEvents s (ops.flatMap regOpEvents) := by
  induction ops generalizing s with
  | nil => simp [playOps]
  | cons op rest ih =>
    have := ih (playOp op s)
    simp only [playOps, List.foldl_cons] at this ⊢
    rw [this, playOp_after, ← afterEvents_append]
    rfl

theorem sendPixel_after (p : Pixel) (s : State) : sendPixel p s = afterEvents s (pixelEvents p) := by
  simp only [sendPixel, sendByte_after, ← afterEvents_append, pixelEvents, hiByte, loByte]

theorem sendPixels_after (ps : List Pixel) (s : State) :
    sendPixels ps s = afterEvents s (ps.flatMap pixelEvents) := by
  induction ps generalizing s with
  | nil => simp [sendPixels]
  | cons p rest ih =>
    have := ih (sendPixel p s)
    simp only [sendPixels, List.foldl_cons] at this ⊢
    rw [this, sendPixel_after, ← afterEvents_append]
    rfl

theorem strobePixel_after (s : State) : strobePixel s = afterEvents s (wsEvents ++ wsEvents) := by
  simp only [strobePixel, strobeWrite_after, ← afterEvents_append]

theorem floodByStrobes_after (gw : Half) (color : Pixel) (count : Nat) (s : State) :
    floodByStrobes gw color count s = afterEvents s (strobeFrame gw color count) := by
  simp only [floodByStrobes, floodFrame, commandBody_after, driveCd_after, sendPixel_after, driveCs_after,
    repeatTimes_after strobePixel_after, ← afterEvents_append, strobeFrame, csIdle]

theorem flatMap_replicate_pixelEvents (n : Nat) (color : Pixel) :
    (List.replicate n color).flatMap pixelEvents = (List.replicate n (pixelEvents color)).flatten := by
  induction n with
  | zero => rfl
  | succ n ih => simp [List.replicate_succ, ih]

theorem floodByBytes_after (gw : Half) (color : Pixel) {count : Nat} (h : 1 ≤ count) (s : State) :
    floodByBytes gw color count s =
      afterEvents s (streamFrame (some gw) (List.replicate count color)) := by
  obtain ⟨n, rfl⟩ : ∃ n, count = n + 1 := ⟨count - 1, by omega⟩
  simp only [floodByBytes, floodFrame, commandBody_after, driveCd_after, sendPixel_after, driveCs_after,
    repeatTimes_after (sendPixel_after color), ← afterEvents_append, streamFrame, csIdle,
    List.replicate_succ, List.flatMap_cons, flatMap_replicate_pixelEvents, Nat.add_sub_cancel]
  simp

/-- FLOOD runs its frame on the path taken. -/
theorem floodBody_after (cfg : Config) (v : VariantRecord) (color : Pixel) {count : Nat} (h : 1 ≤ count)
    (s : State) :
    floodBody cfg v color count s =
      afterEvents s (floodEvents cfg.strobeOnlyFlood v.gramWrite color count) := by
  by_cases hp : (cfg.strobeOnlyFlood && sameByte color) = true
  · rw [floodBody, if_pos hp, floodByStrobes_after, floodEvents, if_pos (by exact hp)]
  · rw [floodBody, if_neg hp, floodByBytes_after _ _ h, floodEvents, if_neg (by exact hp)]

theorem pushBody_after (v : VariantRecord) (first : Bool) (ps : List Pixel) (s : State) :
    pushBody v first ps s =
      afterEvents s (streamFrame (if first then some v.gramWrite else none) ps) := by
  cases first <;>
    simp only [pushBody, commandBody_after, driveCs_after, driveCd_after, sendPixels_after,
      ← afterEvents_append, streamFrame, csIdle, csActive, if_true, if_false, Bool.false_eq_true]

/-! ### Drawing -/

theorem windowBody_after (v : VariantRecord) (x1 y1 x2 y2 : Half) (s : State) :
    windowBody v x1 y1 x2 y2 s = afterEvents s ((v.windowSeq x1 y1 x2 y2).flatMap regOpEvents) :=
  playOps_after _ _

/-- A window and a flood of at least one pixel. -/
theorem setWindow_flood_after (cfg : Config) (v : VariantRecord) (x1 y1 x2 y2 : Int) (color : Pixel)
    {count : Nat} (h : 1 ≤ count) (s : State) :
    floodBody cfg v color count (setWindow v x1 y1 x2 y2 s) =
      afterEvents s (windowFlood cfg v (BitVec.ofInt 16 x1) (BitVec.ofInt 16 y1) (BitVec.ofInt 16 x2)
        (BitVec.ofInt 16 y2) color count) := by
  rw [floodBody_after _ _ _ h, setWindow, windowBody_after, ← afterEvents_append]
  rfl

theorem pixelBody_after (cfg : Config) (v : VariantRecord) (color : Pixel) (x y : Int) (s : State) :
    pixelBody cfg v color x y s = afterEvents s (pixelPlacement cfg v color x y) := by
  have hb : (pixelInside x y v = true) ↔ 0 ≤ x ∧ 0 ≤ y ∧ x < v.width.size ∧ y < v.height.size := by
    simp [pixelInside, and_assoc]
  simp only [pixelBody, pixelPlacement, hb]
  split
  · exact setWindow_flood_after cfg v x y x y color (Nat.le_refl 1) s
  · simp

/-- One row of the slow path: pixel `i` of the row at column `x + i`. -/
theorem bitmapRow_after (cfg : Config) (v : VariantRecord) (y : Int) (ps : List Pixel) (x : Int) (s : State) :
    bitmapRow cfg v x y ps s =
      afterEvents s ((ps.zipIdx).flatMap fun p => pixelPlacement cfg v p.1 (x + p.2) y) := by
  induction ps generalizing x s with
  | nil => simp [bitmapRow]
  | cons p rest ih =>
    rw [bitmapRow, ih, pixelBody_after, ← afterEvents_append, List.zipIdx_cons', List.flatMap_cons,
      List.flatMap_map]
    congr 2
    · simp
    · simp [Int.add_comm, Int.add_left_comm]

/-- Every drawing body runs some events. -/
theorem bitmapRows_after (cfg : Config) (v : VariantRecord) (x : Int) (w h : Nat) (y : Int) (ps : List Pixel)
    (s : State) : ∃ ev, bitmapRows cfg v x w h y ps s = afterEvents s ev := by
  induction h generalizing y ps s with
  | zero => exact ⟨[], by simp [bitmapRows]⟩
  | succ h ih =>
    obtain ⟨ev, he⟩ := ih (y + 1) (ps.drop w) (bitmapRow cfg v x y (ps.take w) s)
    exact ⟨_, by rw [bitmapRows, he, bitmapRow_after, ← afterEvents_append]⟩

end Sys2Proof.Machine
end

