-- ==== Sys2Proof/Laws/Bytes.lean ====
section
/-! SUPPORT. The scan of R10 runs over a concatenation part by part. -/

namespace Sys2Proof.Machine

@[simp] theorem bytesFrom_nil (v : BusView) : bytesFrom v [] = [] := rfl

theorem bytesFrom_cons (v : BusView) (e : Event) (t : List Event) :
    bytesFrom v (e :: t) = itemsOf v e ++ bytesFrom (viewStep v e) t := rfl

@[simp] theorem viewAfter_nil (v : BusView) : viewAfter v [] = v := rfl

theorem viewAfter_cons (v : BusView) (e : Event) (t : List Event) :
    viewAfter v (e :: t) = viewAfter (viewStep v e) t := rfl

theorem viewAfter_append (v : BusView) (t u : List Event) :
    viewAfter v (t ++ u) = viewAfter (viewAfter v t) u := by
  simp [viewAfter, List.foldl_append]

theorem bytesFrom_append (v : BusView) (t u : List Event) :
    bytesFrom v (t ++ u) = bytesFrom v t ++ bytesFrom (viewAfter v t) u := by
  induction t generalizing v with
  | nil => rfl
  | cons e t ih => simp [bytesFrom_cons, ih, viewAfter_cons]

end Sys2Proof.Machine
end

