-- ==== Sys2Proof/Laws/Memory.lean ====
section
/-! SUPPORT. BUF (spec/20_memory.md R42): every operation on it keeps the canonical form, and reads see writes. -/

namespace Sys2Proof.Machine

@[simp] theorem wfFrom_nil (lo : Nat) : Memory.wfFrom lo [] = true := rfl

@[simp] theorem wfFrom_cons (lo b : Nat) (q : Pixel) (rest : Memory) :
    Memory.wfFrom lo ((b, q) :: rest) = true ↔
      lo ≤ b ∧ b < 2 ^ 32 ∧ Memory.wfFrom (b + 1) rest = true := by
  simp [Memory.wfFrom, and_assoc]

/-- A canonical form from a higher start is one from a lower start. -/
theorem wfFrom_mono {lo hi : Nat} (h : lo ≤ hi) {m : Memory} (hm : Memory.wfFrom hi m = true) :
    Memory.wfFrom lo m = true := by
  cases m with
  | nil => rfl
  | cons c rest =>
    obtain ⟨b, q⟩ := c
    rw [wfFrom_cons] at hm ⊢
    exact ⟨h.trans hm.1, hm.2⟩

theorem wfFrom_write {m : Memory} {lo a : Nat} {p : Pixel} (hm : Memory.wfFrom lo m = true)
    (hlo : lo ≤ a) (ha : a < 2 ^ 32) : Memory.wfFrom lo (Memory.write m a p) = true := by
  induction m generalizing lo with
  | nil => simp [Memory.write, hlo]; omega
  | cons c rest ih =>
    obtain ⟨b, q⟩ := c
    rw [wfFrom_cons] at hm
    obtain ⟨h1, h2, h3⟩ := hm
    simp only [Memory.write]
    split
    · rw [wfFrom_cons, wfFrom_cons]
      exact ⟨hlo, ha, by omega, h2, h3⟩
    · split
      · next h => subst h; rw [wfFrom_cons]; exact ⟨h1, h2, h3⟩
      · rw [wfFrom_cons]; exact ⟨h1, h2, ih h3 (by omega)⟩

theorem wfFrom_erase {m : Memory} {lo : Nat} (a : Nat) (hm : Memory.wfFrom lo m = true) :
    Memory.wfFrom lo (Memory.erase m a) = true := by
  induction m generalizing lo with
  | nil => rfl
  | cons c rest ih =>
    obtain ⟨b, q⟩ := c
    rw [wfFrom_cons] at hm
    obtain ⟨h1, h2, h3⟩ := hm
    simp only [Memory.erase]
    split
    · exact wfFrom_mono (by omega) h3
    · rw [wfFrom_cons]; exact ⟨h1, h2, ih h3⟩

/-- A host's store keeps the canonical form. -/
theorem wf_write {m : Memory} {a : Nat} {p : Pixel} (hm : Memory.wf m = true) (ha : a < 2 ^ 32) :
    Memory.wf (Memory.write m a p) = true := wfFrom_write hm (Nat.zero_le a) ha

/-- A host's release keeps the canonical form. -/
theorem wf_erase {m : Memory} (a : Nat) (hm : Memory.wf m = true) :
    Memory.wf (Memory.erase m a) = true := wfFrom_erase a hm

/-- A cell below the canonical form's start holds no value. -/
theorem read_below {m : Memory} {lo a : Nat} (hm : Memory.wfFrom lo m = true) (h : a < lo) :
    Memory.read m a = none := by
  induction m generalizing lo with
  | nil => rfl
  | cons c rest ih =>
    obtain ⟨b, q⟩ := c
    rw [wfFrom_cons] at hm
    have hne : a ≠ b := by omega
    simp only [Memory.read, hne, if_false]
    exact ih hm.2.2 (by omega)

/-- A read of a stored cell gives what was stored. -/
@[simp] theorem read_write_same (m : Memory) (a : Nat) (p : Pixel) :
    Memory.read (Memory.write m a p) a = some p := by
  induction m with
  | nil => simp [Memory.write, Memory.read]
  | cons c rest ih =>
    obtain ⟨b, q⟩ := c
    simp only [Memory.write]
    split
    · simp [Memory.read]
    · split
      · simp [Memory.read]
      · next h => simp [Memory.read, h, ih]

/-- A store leaves every other cell alone. -/
theorem read_write_other (m : Memory) {a b : Nat} (p : Pixel) (h : b ≠ a) :
    Memory.read (Memory.write m a p) b = Memory.read m b := by
  induction m with
  | nil => simp [Memory.write, Memory.read, h]
  | cons c rest ih =>
    obtain ⟨d, q⟩ := c
    simp only [Memory.write]
    split
    · simp [Memory.read, h]
    · split
      · next _ hd => subst hd; simp [Memory.read, h]
      · simp only [Memory.read, ih]

/-- A released cell of a canonical BUF holds no value. -/
theorem read_erase_same {m : Memory} {lo : Nat} (a : Nat) (hm : Memory.wfFrom lo m = true) :
    Memory.read (Memory.erase m a) a = none := by
  induction m generalizing lo with
  | nil => rfl
  | cons c rest ih =>
    obtain ⟨b, q⟩ := c
    rw [wfFrom_cons] at hm
    simp only [Memory.erase]
    split
    · next h => subst h; exact read_below hm.2.2 (by omega)
    · next h => simp only [Memory.read, h, if_false]; exact ih hm.2.2

/-- A release leaves every other cell alone. -/
theorem read_erase_other (m : Memory) {a b : Nat} (h : b ≠ a) :
    Memory.read (Memory.erase m a) b = Memory.read m b := by
  induction m with
  | nil => rfl
  | cons c rest ih =>
    obtain ⟨d, q⟩ := c
    simp only [Memory.erase]
    split
    · next hd => subst hd; simp [Memory.read, h]
    · simp only [Memory.read, ih]

/-- Reading many cells succeeds exactly where each of them holds a value. -/
theorem readMany_isSome_iff (m : Memory) (base n : Nat) :
    (Memory.readMany m base n).isSome = true ↔
      ∀ k, k < n → (Memory.read m (base + k)).isSome = true := by
  induction n generalizing base with
  | zero => simp [Memory.readMany]
  | succ n ih =>
    simp only [Memory.readMany]
    cases h0 : Memory.read m base with
    | none =>
      simp only [Option.isSome_none, Bool.false_eq_true, false_iff, not_forall]
      exact ⟨0, Nat.succ_pos n, by simp [h0]⟩
    | some p =>
      have step : (∀ k, k < n + 1 → (Memory.read m (base + k)).isSome = true) ↔
          ∀ k, k < n → (Memory.read m (base + 1 + k)).isSome = true := by
        constructor
        · intro h k hk
          have := h (k + 1) (by omega)
          rwa [show base + (k + 1) = base + 1 + k by omega] at this
        · intro h k hk
          cases k with
          | zero => simp [h0]
          | succ k =>
            have := h k (by omega)
            rwa [show base + 1 + k = base + (k + 1) by omega] at this
      rw [step, ← ih (base + 1)]
      cases Memory.readMany m (base + 1) n <;> simp

/-- The Pixels read are as many as asked for, and the k-th is the cell `base + k`. -/
theorem readMany_spec {m : Memory} {base n : Nat} {ps : List Pixel}
    (h : Memory.readMany m base n = some ps) :
    ps.length = n ∧ ∀ k, k < n → Memory.read m (base + k) = ps[k]? := by
  induction n generalizing base ps with
  | zero => simp [Memory.readMany] at h; subst h; simp
  | succ n ih =>
    simp only [Memory.readMany] at h
    cases h0 : Memory.read m base with
    | none => simp [h0] at h
    | some p =>
      cases h1 : Memory.readMany m (base + 1) n with
      | none => simp [h0, h1] at h
      | some qs =>
        simp only [h0, h1, Option.some.injEq] at h
        subst h
        obtain ⟨hl, hr⟩ := ih h1
        refine ⟨by simp [hl], fun k hk => ?_⟩
        cases k with
        | zero => simp [h0]
        | succ k =>
          rw [show base + (k + 1) = base + 1 + k by omega, hr k (by omega)]
          simp

end Sys2Proof.Machine
end

