-- ==== Sys2Proof/Laws/PerInstr.lean ====
section
/-! SUPPORT. For every operation: its encoding is a well-formed descriptor (spec/30_encoding.md R65, R69). -/

namespace Sys2Proof.Laws.EncodedWellFormed

/-- What is said of each operation. -/
abbrev Statement (i : Instr) : Prop := wellFormed (encode i) = true

/-- A row of the table that takes a descriptor makes it well formed. -/
theorem of_row {w0 : Word} {tail : List Word} (r : FormatRow) (hr : r ∈ formatRows)
    (h0 : w0 &&& r.mask = r.pattern) (hl : tail.length = r.tailZero.length)
    (ht : ∀ p ∈ tail.zip r.tailZero, p.1 &&& p.2 = 0#32) : wellFormed (w0 :: tail) = true := by
  simp only [wellFormed, List.any_eq_true]
  refine ⟨r, hr, ?_⟩
  simp only [FormatRow.headOk, FormatRow.lengthOk, FormatRow.tailOk, h0, hl, decide_true,
    Bool.true_and, List.all_eq_true]
  exact fun p hp => decide_eq_true (ht p hp)

/-- A 16-bit operand in word 0 leaves the fixed half alone. -/
theorem half_mask (op fl : Byte) (imm : Half) :
    headWord op fl imm &&& 0xFFFF0000#32 = headWord op fl 0 := by
  have hm : (0xFFFF0000#32 : Word) = (BitVec.allOnes (8 + 8) ++ 0#16) := by decide
  rw [hm, headWord, headWord]
  exact BitVec.and_append.trans (by rw [BitVec.and_allOnes, BitVec.and_zero]; rfl)

/-- A byte operand in word 0 leaves the fixed 24 bits alone. -/
theorem byte_mask (op fl v : Byte) :
    headWord op fl (0#8 ++ v) &&& 0xFFFFFF00#32 = headWord op fl 0 := by
  have hm : (0xFFFFFF00#32 : Word) = (BitVec.allOnes (8 + 8) ++ (BitVec.allOnes 8 ++ 0#8)) := by decide
  rw [hm, headWord, headWord]
  exact BitVec.and_append.trans (by
    rw [BitVec.and_append, BitVec.and_allOnes, BitVec.and_zero, BitVec.and_allOnes]; rfl)

/-- A datum extended with zeros has none of the bits above its width. -/
theorem data_mask {n : Nat} (d : BitVec n) (m : Word) (h : ∀ k, k < n → m.getLsbD k = false) :
    d.setWidth 32 &&& m = 0#32 := by
  ext k hk
  simp only [BitVec.getElem_and, BitVec.getElem_setWidth, BitVec.getElem_zero, Bool.and_eq_false_imp]
  intro hd
  have hkn : k < n := by
    by_contra hn
    simp [BitVec.getLsbD_of_ge d k (by omega)] at hd
  have := h k hkn
  rwa [BitVec.getLsbD_eq_getElem hk] at this

/-- A length under sixteen zeros has none of the upper bits. -/
theorem len_mask (len : Half) : (0#16 ++ len : Word) &&& 0xFFFF0000#32 = 0#32 := by
  have hm : (0xFFFF0000#32 : Word) = (BitVec.allOnes 16 ++ 0#16) := by decide
  rw [hm]
  exact BitVec.and_append.trans (by simp)

/-- The rows whose further words have no must-be-zero bit. -/
theorem zero_tail {tail zs : List Word} (hz : ∀ z ∈ zs, z = 0#32) :
    ∀ p ∈ tail.zip zs, p.1 &&& p.2 = 0#32 := by
  intro p hp
  rw [hz p.2 (List.of_mem_zip hp).2, BitVec.and_zero]

theorem csAssert : Statement .csAssert := by decide
theorem csIdle : Statement .csIdle := by decide
theorem cdCommand : Statement .cdCommand := by decide
theorem cdData : Statement .cdData := by decide
theorem wrStrobe : Statement .wrStrobe := by decide
theorem writeByte (v : Byte) : Statement (.writeByte v) :=
  of_row ⟨0x15000000#32, 0xFFFFFF00#32, []⟩ (by decide) (byte_mask _ _ _) rfl (by simp)
theorem readByte : Statement .readByte := by decide
theorem setDirWrite : Statement .setDirWrite := by decide
theorem setDirRead : Statement .setDirRead := by decide
theorem writeCommand (cmd : Half) : Statement (.writeCommand cmd) :=
  of_row ⟨0x20000000#32, 0xFFFF0000#32, []⟩ (by decide) (half_mask _ _ _) rfl (by simp)
theorem writeReg8 (addr : Half) (data : Byte) : Statement (.writeReg8 addr data) :=
  of_row ⟨0x21000000#32, 0xFFFF0000#32, [0xFFFFFF00#32]⟩ (by decide) (half_mask _ _ _) rfl
    (by simpa using data_mask data 0xFFFFFF00#32 (by decide))
theorem writeReg16 (addr : Half) (data : Half) : Statement (.writeReg16 addr data) :=
  of_row ⟨0x22000000#32, 0xFFFF0000#32, [0xFFFF0000#32]⟩ (by decide) (half_mask _ _ _) rfl
    (by simpa using data_mask data 0xFFFF0000#32 (by decide))
theorem writeReg24 (addr : Half) (data : BitVec 24) : Statement (.writeReg24 addr data) :=
  of_row ⟨0x23000000#32, 0xFFFF0000#32, [0xFF000000#32]⟩ (by decide) (half_mask _ _ _) rfl
    (by simpa using data_mask data 0xFF000000#32 (by decide))
theorem writeReg32 (addr : Half) (data : Word) : Statement (.writeReg32 addr data) :=
  of_row ⟨0x24000000#32, 0xFFFF0000#32, [0#32]⟩ (by decide) (half_mask _ _ _) rfl (zero_tail (by simp))
theorem writeRegPair (addrHigh addrLow : Half) (data : Half) :
    Statement (.writeRegPair addrHigh addrLow data) :=
  of_row ⟨0x25000000#32, 0xFFFF0000#32, [0#32]⟩ (by decide) (half_mask _ _ _) rfl (zero_tail (by simp))
theorem readReg16 (addr : Half) : Statement (.readReg16 addr) :=
  of_row ⟨0x26000000#32, 0xFFFF0000#32, []⟩ (by decide) (half_mask _ _ _) rfl (by simp)
theorem readReg32 (addr : Half) : Statement (.readReg32 addr) :=
  of_row ⟨0x27000000#32, 0xFFFF0000#32, []⟩ (by decide) (half_mask _ _ _) rfl (by simp)
theorem reset : Statement .reset := by decide
theorem readId : Statement .readId := by decide
theorem spawn (id : Half) : Statement (.spawn id) :=
  of_row ⟨0x32000000#32, 0xFFFF0000#32, []⟩ (by decide) (half_mask _ _ _) rfl (by simp)
theorem beginInit : Statement .beginInit := by decide
theorem setAddrWindow (x1 y1 x2 y2 : Half) : Statement (.setAddrWindow x1 y1 x2 y2) :=
  of_row ⟨0x40000000#32, 0xFFFFFFFF#32, [0#32, 0#32]⟩ (by decide) (by decide) rfl (zero_tail (by simp))
theorem flood (color : Pixel) (count : Word) : Statement (.flood color count) :=
  of_row ⟨0x41000000#32, 0xFFFF0000#32, [0#32]⟩ (by decide) (half_mask _ _ _) rfl (zero_tail (by simp))
theorem pushColors (first : Bool) (count base : Word) : Statement (.pushColors first count base) :=
  of_row ⟨0x42000000#32, 0xFFFEFFFF#32, [0#32, 0#32]⟩ (by decide) (by cases first <;> decide) rfl
    (zero_tail (by simp))
theorem drawBitmap (x y w h : Half) (base : Word) : Statement (.drawBitmap x y w h base) :=
  of_row ⟨0x43000000#32, 0xFFFFFFFF#32, [0#32, 0#32, 0#32]⟩ (by decide) (by decide) rfl
    (zero_tail (by simp))
theorem drawPixel (color : Pixel) (x y : Half) : Statement (.drawPixel color x y) :=
  of_row ⟨0x44000000#32, 0xFFFF0000#32, [0#32]⟩ (by decide) (half_mask _ _ _) rfl (zero_tail (by simp))
theorem fillRect (color : Pixel) (x y w h : Half) : Statement (.fillRect color x y w h) :=
  of_row ⟨0x45000000#32, 0xFFFF0000#32, [0#32, 0#32]⟩ (by decide) (half_mask _ _ _) rfl
    (zero_tail (by simp))
theorem drawFastHLine (color : Pixel) (x y len : Half) : Statement (.drawFastHLine color x y len) :=
  of_row ⟨0x46000000#32, 0xFFFF0000#32, [0#32, 0xFFFF0000#32]⟩ (by decide) (half_mask _ _ _) rfl
    (by simp [len_mask])
theorem drawFastVLine (color : Pixel) (x y len : Half) : Statement (.drawFastVLine color x y len) :=
  of_row ⟨0x47000000#32, 0xFFFF0000#32, [0#32, 0xFFFF0000#32]⟩ (by decide) (half_mask _ _ _) rfl
    (by simp [len_mask])

end Sys2Proof.Laws.EncodedWellFormed
end

