-- ==== Sys2Proof/Tests/Fixtures.lean ====
section
/-! SUPPORT. The fixtures of spec/95_test_vectors.md section 0: configuration K0, the records T1 and T2, the
start states, and the panel SimPanel of spec/20_memory.md R56 with GRAM as R55 has it (log 29). SimPanel is no part
of the block: only tests use it. -/

namespace Sys2Proof.Machine

/-- Record T1 of 95. -/
def recordT1 : VariantRecord where
  width     := ⟨⟨239, by decide⟩⟩
  height    := ⟨⟨319, by decide⟩⟩
  gramWrite := 0x002C#16
  windowSeq := fun x1 y1 x2 y2 => [.w32 0x002A#16 (x1 ++ x2), .w32 0x002B#16 (y1 ++ y2)]
  initSeq   := [.w8 0x0011#16 0x00#8, .wait 120, .w8 0x0029#16 0x00#8]

/-- Record T2 of 95: register pairs. -/
def recordT2 : VariantRecord where
  width     := ⟨⟨239, by decide⟩⟩
  height    := ⟨⟨319, by decide⟩⟩
  gramWrite := 0x0022#16
  windowSeq := fun x1 y1 x2 y2 =>
    [.wp 0x0002#16 0x0003#16 x1, .wp 0x0004#16 0x0005#16 x2, .wp 0x0006#16 0x0007#16 y1,
     .wp 0x0008#16 0x0009#16 y2]
  initSeq   := []

/-- SimPanel (R56), its window and pointer as R55 has them under record T1. -/
structure SimPanel where
  /-- What a register that holds nothing answers. -/
  filler  : Byte
  regs    : List ((Half × Nat) × Byte)
  cur     : Half
  /-- The first byte of a command under way. -/
  high    : Option Byte
  k       : Nat
  pointer : Nat × Nat
  /-- The first byte of a Pixel under way. -/
  half    : Option Byte
  gram    : List ((Nat × Nat) × Pixel)
deriving DecidableEq, Repr

namespace SimPanel

/-- What the panel answers to a sample now. -/
def answer (p : SimPanel) : Byte := (p.regs.lookup (p.cur, p.k)).getD p.filler

/-- The coordinate in the bytes `k` and `k + 1` of register `r`. -/
def coordinate (p : SimPanel) (r : Half) (k : Nat) : Nat :=
  (((p.regs.lookup (r, k)).getD 0 ++ (p.regs.lookup (r, k + 1)).getD 0 : Half)).toNat

/-- The window's origin, held by the registers 0x002A and 0x002B of T1. -/
def origin (p : SimPanel) : Nat × Nat := (p.coordinate 0x002A#16 0, p.coordinate 0x002B#16 0)

/-- The pointer after one Pixel: x first, then y, then back to the origin (R55, R56). -/
def advanced (p : SimPanel) : Nat × Nat :=
  if p.pointer.1 < p.coordinate 0x002A#16 2 then (p.pointer.1 + 1, p.pointer.2)
  else if p.pointer.2 < p.coordinate 0x002B#16 2 then (p.origin.1, p.pointer.2 + 1)
  else p.origin

/-- A data byte: into GRAM, or into the current register. -/
def takeData (p : SimPanel) (b : Byte) : SimPanel :=
  if p.cur = recordT1.gramWrite then
    match p.half with
    | none => { p with half := some b }
    | some h => { p with half := none, gram := (p.pointer, h ++ b) :: p.gram, pointer := p.advanced }
  else
    let q := { p with regs := ((p.cur, p.k), b) :: p.regs, k := p.k + 1 }
    if p.cur = 0x002A#16 ∨ p.cur = 0x002B#16 then { q with pointer := q.origin } else q

/-- One item seen on the bus. -/
def takeItem (p : SimPanel) (i : BusItem) : SimPanel :=
  match i with
  | .w (some 0) (some b) =>
    match p.high with
    | none => { p with high := some b }
    | some h => { p with high := none, cur := h ++ b, k := 0, half := none }
  | .w (some _) (some b) => takeData p b
  | .w _ _ => p
  | .rd _ _ => { p with k := p.k + 1 }
  | .frameEnd => { p with high := none }

/-- A panel with these register bytes, `filler` elsewhere, nothing in GRAM. -/
def fresh (filler : Byte) (regs : List (Half × List Byte)) : SimPanel where
  filler  := filler
  regs    := regs.flatMap fun r => (List.range r.2.length).zip r.2 |>.map fun b => ((r.1, b.1), b.2)
  cur     := 0
  high    := none
  k       := 0
  pointer := (0, 0)
  half    := none
  gram    := []

/-- The panel after a trace that began with the pins as RESET leaves them (95 takes that as the origin). -/
def after (p : SimPanel) (t : List Event) : SimPanel :=
  (bytesFrom ⟨some 1, some 1, some .write, none, .off⟩ t).foldl takeItem p

end SimPanel

/-- Configuration K0 of 95, with a SimPanel that holds these register bytes. -/
def k0 (filler : Byte) (regs : List (Half × List Byte)) : Config where
  hasResetPin     := true
  extIdWidth      := .bits16
  setc            := .w24 0x00B9#16 0xFF8357#24
  kindOf9341      := .ili9341
  kindOf9338      := .ili9341
  otherIds        := fun id => if id = 0x7575#16 then some .hx8347g else none
  variant         := fun κ => if κ = .hx8347g then recordT2 else recordT1
  strobeOnlyFlood := false
  tStrobe         := 0
  tTurnaround     := 0
  tResetLowOver   := 0
  tResetHighOver  := 0
  tSetc           := 0
  oracle          := fun t => ((SimPanel.fresh filler regs).after t).answer

/-- K0 with a panel whose registers all answer 0x00. -/
def k0Silent : Config := k0 0 []

/-- The state after RESET on a board with a reset line, its trace taken as the origin (95 section 2.1). -/
def afterReset : State where
  phase   := .configured
  dir     := some .write
  cs      := some 1
  cd      := some 1
  wr      := some 1
  rd      := some 1
  rst     := some 1
  dout    := none
  kind    := .none
  trace   := []
  result  := none
  buf     := []
  pending := []

/-- READY1 of 95. -/
def ready1 : State := { afterReset with kind := .known .ili9341 }

/-- READY2 of 95. -/
def ready2 : State := { afterReset with kind := .known .hx8347g }

/-- After the SPAWN of an unknown ID. -/
def unsupported : State := { afterReset with kind := .unsupported }

/-- A frame the host opened: CS active, a byte in the latch. -/
def framed : State := { afterReset with cs := some 0, dout := some 0x55#8 }

/-- A read the host opened. -/
def reading : State := { framed with dir := some .read }

/-- READY1 with the buffer of 95's bitmap vectors. -/
def withBitmap : State :=
  { ready1 with buf := [(100, 0x1111#16), (101, 0x2222#16), (102, 0x3333#16), (103, 0x4444#16),
                        (104, 0x5555#16), (105, 0x6666#16)] }

/-- READY1 with the buffer of 95's burst vectors. -/
def withBurst : State :=
  { ready1 with buf := [(7, 0x1234#16), (8, 0xABCD#16), (9, 0x0000#16), (10, 0xFFFF#16)] }

/-! ### Reading a result -/

def endOf (r : Result) : Option State :=
  match r with
  | .next s => some s
  | .fault _ => none
  | .refused _ => none

def refusalOf (r : Result) : Option Refusal :=
  match r with
  | .next _ => none
  | .fault _ => none
  | .refused why => some why

/-- The events of an operation that started with an empty trace. -/
def emitted (r : Result) : Option (List Event) := (endOf r).map (·.trace)

/-- What such an operation puts on the bus, started in `s`. -/
def onBus (s : State) (r : Result) : Option (List BusItem) := (endOf r).map fun t => bytesFrom (viewOf s) t.trace

/-- `W(0, b)`, `W(1, b)` and `Rd(1, b)` of R10. -/
def cw (b : Byte) : BusItem := .w (some 0) (some b)
def dw (b : Byte) : BusItem := .w (some 1) (some b)
def dr (b : Byte) : BusItem := .rd (some 1) b

end Sys2Proof.Machine
end

