-- ==== Sys2Proof/Tests/Slice0.lean ====
section
/-! SUPPORT. Tests of the model. Every expected value is written out from spec/95_test_vectors.md (V<n>, S<n>, P<n>)
or from the formats of spec/30_encoding.md R65 and R67, none from the model. -/

namespace Sys2Proof.Machine

/-! ### Well-formedness: one ill-formed descriptor for each check of R69 -/

/-- V18: no such opcode; V17: bit 8 set in format FB; V98: bit 17 set in format FS. -/
theorem test_ill_formed_head :
    wellFormed [0x19000000#32] = false ∧ wellFormed [0x15000100#32] = false ∧
    wellFormed [0x42020000#32, 2#32, 7#32] = false := by decide

/-- R69 (d): no word at all, a word too few, a word too many. -/
theorem test_ill_formed_length :
    wellFormed [] = false ∧ wellFormed [0x21000036#32] = false ∧
    wellFormed [0x30000000#32, 0#32] = false := by decide

/-- V31: a data bit above the width; V99: the zero half of format FL. -/
theorem test_ill_formed_tail :
    wellFormed [0x21000036#32, 0x00000148#32] = false ∧
    wellFormed [0x46000000#32, 0x00000000#32, 0x00010005#32] = false := by decide

/-! ### Decoding: every constructor from a descriptor written out from the spec -/

theorem test_decode_bus_signal :
    decode [0x10000000#32] = .ok .csAssert ∧ decode [0x11000000#32] = .ok .csIdle ∧
    decode [0x12000000#32] = .ok .cdCommand ∧ decode [0x13000000#32] = .ok .cdData ∧
    decode [0x14000000#32] = .ok .wrStrobe ∧ decode [0x150000F8#32] = .ok (.writeByte 0xF8#8) ∧
    decode [0x16000000#32] = .ok .readByte ∧ decode [0x17000000#32] = .ok .setDirWrite ∧
    decode [0x18000000#32] = .ok .setDirRead := by decide

theorem test_decode_register_protocol :
    decode [0x2000002C#32] = .ok (.writeCommand 0x002C#16) ∧
    decode [0x21000036#32, 0x00000048#32] = .ok (.writeReg8 0x0036#16 0x48#8) ∧
    decode [0x22000050#32, 0x0000000A#32] = .ok (.writeReg16 0x0050#16 0x000A#16) ∧
    decode [0x230000B9#32, 0x00FF8357#32] = .ok (.writeReg24 0x00B9#16 0xFF8357#24) ∧
    decode [0x24001234#32, 0xDEADBEEF#32] = .ok (.writeReg32 0x1234#16 0xDEADBEEF#32) ∧
    decode [0x25000002#32, 0x0003012C#32] = .ok (.writeRegPair 0x0002#16 0x0003#16 0x012C#16) ∧
    decode [0x26000051#32] = .ok (.readReg16 0x0051#16) ∧
    decode [0x270000D3#32] = .ok (.readReg32 0x00D3#16) := by decide

theorem test_decode_detector :
    decode [0x30000000#32] = .ok .reset ∧ decode [0x31000000#32] = .ok .readId ∧
    decode [0x32007789#32] = .ok (.spawn 0x7789#16) ∧ decode [0x33000000#32] = .ok .beginInit := by decide

theorem test_decode_blit :
    decode [0x40000000#32, 0x000A000B#32, 0x0013001D#32]
      = .ok (.setAddrWindow 0x000A#16 0x000B#16 0x0013#16 0x001D#16) ∧
    decode [0x4100F800#32, 0x00000064#32] = .ok (.flood 0xF800#16 100) ∧
    decode [0x42010000#32, 0x00000002#32, 0x00000007#32] = .ok (.pushColors true 2 7) ∧
    decode [0x43000000#32, 0xFFFFFFFE#32, 0x00030002#32, 0x00000064#32]
      = .ok (.drawBitmap 0xFFFF#16 0xFFFE#16 3 2 100) ∧
    decode [0x440007E0#32, 0x00EF013F#32] = .ok (.drawPixel 0x07E0#16 239 319) ∧
    decode [0x4500F800#32, 0xFFFB000A#32, 0x00140008#32] = .ok (.fillRect 0xF800#16 0xFFFB#16 10 20 8) ∧
    decode [0x4600FFFF#32, 0x00E60005#32, 0x00000014#32] = .ok (.drawFastHLine 0xFFFF#16 230 5 20) ∧
    decode [0x4700001F#32, 0x0000FFFD#32, 0x0000000A#32] = .ok (.drawFastVLine 0x001F#16 0 0xFFFD#16 10) := by
  decide

/-- The encoder writes the descriptors of 95 section 2.5. -/
theorem test_encode_formats :
    encode .reset = [0x30000000#32] ∧ encode (.writeByte 0xF8#8) = [0x150000F8#32] ∧
    encode (.readReg32 0x00D3#16) = [0x270000D3#32] ∧
    encode (.writeReg24 0x00B9#16 0xFF8357#24) = [0x230000B9#32, 0x00FF8357#32] ∧
    encode (.writeRegPair 2 3 0x012C#16) = [0x25000002#32, 0x0003012C#32] ∧
    encode (.setAddrWindow 10 10 19 19) = [0x40000000#32, 0x000A000A#32, 0x00130013#32] ∧
    encode (.flood 0xF800#16 100) = [0x4100F800#32, 0x00000064#32] ∧
    encode (.pushColors true 2 7) = [0x42010000#32, 0x00000002#32, 0x00000007#32] ∧
    encode (.drawBitmap 0xFFFF#16 0xFFFF#16 3 2 100)
      = [0x43000000#32, 0xFFFFFFFF#32, 0x00030002#32, 0x00000064#32] ∧
    encode (.drawPixel 0x07E0#16 239 319) = [0x440007E0#32, 0x00EF013F#32] ∧
    encode (.fillRect 0xF800#16 0xFFFB#16 10 20 8) = [0x4500F800#32, 0xFFFB000A#32, 0x00140008#32] ∧
    encode (.drawFastVLine 0x001F#16 0 0xFFFD#16 10) = [0x4700001F#32, 0x0000FFFD#32, 0x0000000A#32] := by
  decide

/-- A table number counts the second word's bits on from bit 32; a number shorter than the descriptor stands for
operand words of zeros. -/
theorem test_decode_table_word :
    decodeTableWord 64 0x0003012C25000002 = some (.writeRegPair 2 3 0x012C#16) ∧
    decodeTableWord 32 0x45001234 = some (.fillRect 0x1234#16 0 0 0 0) ∧
    decodeTableWord 32 0x19000000 = none := by decide

/-! ### BusSignal -/

/-- V1, V2. -/
theorem test_chip_select :
    emitted (exec .csAssert afterReset) = some [.cs 0] ∧
    (endOf (exec .csAssert afterReset)).map (·.cs) = some (some 0) ∧
    onBus framed (exec .csIdle framed) = some [.frameEnd] ∧
    onBus afterReset (exec .csIdle afterReset) = some [] := by decide

/-- V4, V5. -/
theorem test_command_data :
    emitted (exec .cdCommand afterReset) = some [.cd 0] ∧
    (endOf (exec .cdCommand afterReset)).map (·.cd) = some (some 0) ∧
    emitted (exec .cdData afterReset) = some [.cd 1] := by decide

/-- V7; V12: no byte was ever loaded. -/
theorem test_wr_strobe :
    emitted (exec .wrStrobe framed) = some [.wr 0, .delay .strobe, .wr 1] ∧
    onBus framed (exec .wrStrobe framed) = some [dw 0x55#8] ∧
    refusalOf (exec .wrStrobe afterReset) = some .doutUndefined := by decide

/-- V6; V11: the panel is not selected; V13: wrong direction; V15; V16. -/
theorem test_write_byte :
    emitted (exec (.writeByte 0xF8#8) framed) = some [.dout 0xF8#8, .wr 0, .delay .strobe, .wr 1] ∧
    onBus framed (exec (.writeByte 0xF8#8) framed) = some [dw 0xF8#8] ∧
    onBus afterReset (exec (.writeByte 0xF8#8) afterReset) = some [] ∧
    refusalOf (exec (.writeByte 0) reading) = some .wrongDirection ∧
    refusalOf (exec .csAssert State.reset) = some .notConfigured ∧
    refusalOf (exec (.writeByte 0) unsupported) = some .unsupportedPanel := by decide

/-- V9: the panel answers 0x93; V14: wrong direction. -/
theorem test_read_byte :
    (readByteBody (k0 0x93#8 []) reading).trace = [.rd 0, .delay .strobe, .sample 0x93#8, .rd 1] ∧
    (readByteBody (k0 0x93#8 []) reading).result = some 0x00000093#32 ∧
    refusalOf (exec .readByte framed) = some .wrongDirection := by decide

/-- V8, V10. -/
theorem test_directions :
    emitted (exec .setDirRead afterReset) = some [.dir .read] ∧
    (endOf (exec .setDirRead afterReset)).map (·.dir) = some (some .read) ∧
    (endOf (exec .setDirWrite reading)).map (·.dir) = some (some .write) := by decide

/-! ### RegisterProtocol -/

/-- V20; V32: a frame is open; V33: a read is open; V34: power-on. -/
theorem test_write_command :
    emitted (exec (.writeCommand 0x002C#16) ready1) =
      some [.cs 0, .cd 0, .dout 0x00#8, .wr 0, .delay .strobe, .wr 1, .dout 0x2C#8, .wr 0, .delay .strobe, .wr 1] ∧
    (endOf (exec (.writeCommand 0x002C#16) ready1)).map (·.cs) = some (some 0) ∧
    refusalOf (exec (.writeReg16 0x0050#16 0x000A#16) framed) = some .busBusy ∧
    refusalOf (exec (.readReg16 0) { reading with cs := some 1 }) = some .wrongDirection ∧
    refusalOf (exec (.writeCommand 0x002C#16) State.reset) = some .notConfigured := by decide

/-- V21, V35: the whole trace, with KIND none. -/
theorem test_write_reg8 :
    emitted (exec (.writeReg8 0x0036#16 0x48#8) afterReset) =
      some [.cs 0, .cd 0, .dout 0x00#8, .wr 0, .delay .strobe, .wr 1, .dout 0x36#8, .wr 0, .delay .strobe, .wr 1,
            .cd 1, .dout 0x48#8, .wr 0, .delay .strobe, .wr 1, .cs 1] := by decide

/-- V22. -/
theorem test_write_reg16 :
    onBus ready1 (exec (.writeReg16 0x0050#16 0x000A#16) ready1) =
      some [cw 0x00#8, cw 0x50#8, dw 0x00#8, dw 0x0A#8, .frameEnd] := by decide

/-- V23. -/
theorem test_write_reg24 :
    onBus ready1 (exec (.writeReg24 0x00B9#16 0xFF8357#24) ready1) =
      some [cw 0x00#8, cw 0xB9#8, dw 0xFF#8, dw 0x83#8, dw 0x57#8, .frameEnd] := by decide

/-- V25: a high address byte that is not zero. -/
theorem test_write_reg32 :
    onBus ready1 (exec (.writeReg32 0x1234#16 0xDEADBEEF#32) ready1) =
      some [cw 0x12#8, cw 0x34#8, dw 0xDE#8, dw 0xAD#8, dw 0xBE#8, dw 0xEF#8, .frameEnd] := by decide

/-- V26. -/
theorem test_write_reg_pair :
    onBus ready1 (exec (.writeRegPair 2 3 0x012C#16) ready1) =
      some [cw 0x00#8, cw 0x02#8, dw 0x01#8, .frameEnd, cw 0x00#8, cw 0x03#8, dw 0x2C#8, .frameEnd] := by decide

/-- V27: the whole trace. -/
theorem test_read_reg16 :
    let t := readReg16Returning (k0 0 [(0x0000#16, [0x93#8, 0x25#8])]) 0x0000#16 ready1
    t.result = some 0x00009325#32 ∧
    t.trace = [.cs 0, .cd 0, .dout 0x00#8, .wr 0, .delay .strobe, .wr 1, .dout 0x00#8, .wr 0, .delay .strobe, .wr 1,
      .dir .read, .cd 1, .delay .turnaround, .rd 0, .delay .strobe, .sample 0x93#8, .rd 1,
      .rd 0, .delay .strobe, .sample 0x25#8, .rd 1, .cs 1, .dir .write] := by decide +kernel

/-- V28. -/
theorem test_read_reg32 :
    let t := readReg32Returning (k0 0 [(0x00D3#16, [0x00#8, 0x00#8, 0x93#8, 0x41#8])]) 0x00D3#16 ready1
    t.result = some 0x00009341#32 ∧ t.dout = some 0xD3#8 ∧ t.dir = some .write ∧
    bytesFrom (viewOf ready1) t.trace =
      [cw 0x00#8, cw 0xD3#8, dr 0x00#8, dr 0x00#8, dr 0x93#8, dr 0x41#8, .frameEnd] := by decide +kernel

/-- S4, P4: what WRITE_REG16 wrote into SimPanel, READ_REG16 reads back; the next register answers 0. -/
theorem test_round_trip_on_simPanel :
    let written := writeRegBody 0x0051#16 (bytesOf16 0xBEEF#16) ready1
    (readReg16Returning k0Silent 0x0051#16 written).result = some 0x0000BEEF#32 ∧
    (readReg16Returning k0Silent 0x0052#16 written).result = some 0#32 := by decide +kernel

/-! ### RESET, READ_ID, SPAWN, BEGIN -/

/-- V36 and V37: from power-on, with and without a reset line. -/
theorem test_reset_from_power_on :
    resetBody k0Silent State.reset =
      { afterReset with
        trace := [.cfg, .cs 1, .cd 1, .wr 1, .rd 1, .dir .write,
                  .rst 1, .rst 0, .delay .resetLow, .rst 1, .delay .resetHigh] } ∧
    resetBody { k0Silent with hasResetPin := false } State.reset =
      { afterReset with rst := none, trace := [.cfg, .cs 1, .cd 1, .wr 1, .rd 1, .dir .write] } := by
  exact ⟨rfl, rfl⟩

/-- V38: an open read frame is ended, DOUT and KIND are kept; V39: KIND stays Unsupported. -/
theorem test_reset_of_an_open_read :
    let s := { reading with dout := some 0xD3#8, kind := .known .ili9341, cd := some 0 }
    let t := resetBody k0Silent s
    bytesFrom (viewOf s) t.trace = [.frameEnd] ∧ t.dir = some .write ∧ t.dout = some 0xD3#8 ∧
    t.kind = .known .ili9341 ∧ (resetBody k0Silent unsupported).kind = .unsupported := by decide

/-- The IDs of V40, V41, V42, V44, V48, V49 and V50. -/
theorem test_read_id_results :
    (readIdBody (k0 0 [(0x0004#16, [0xFF#8, 0x85#8, 0x85#8, 0x52#8])]) afterReset).1 = 0x7789#16 ∧
    (readIdBody (k0 0 [(0x0004#16, [0x00#8, 0x00#8, 0x80#8, 0x00#8]), (0x00D0#16, [0x00#8, 0x99#8])])
      afterReset).1 = 0x8357#16 ∧
    (readIdBody (k0 0 [(0x00D3#16, [0x00#8, 0x00#8, 0x93#8, 0x41#8])]) afterReset).1 = 0x9341#16 ∧
    (readIdBody (k0 0 [(0x0000#16, [0x93#8, 0x25#8])]) afterReset).1 = 0x9325#16 ∧
    (readIdBody (k0 0xFF#8 []) afterReset).1 = 0xFFFF#16 ∧
    (readIdBody (k0 0 [(0x00D3#16, [0x12#8, 0x34#8, 0x93#8, 0x41#8])]) afterReset).1 = 0x9341#16 ∧
    (readIdBody (k0 0 [(0x0004#16, [0x00#8, 0x01#8, 0x80#8, 0x00#8])]) afterReset).1 = 0x0000#16 := by decide +kernel

/-- V41: the bytes, the 133 events and the wait between the fourth and the fifth frame. -/
theorem test_read_id_with_confirmation :
    let t := readIdReturning (k0 0 [(0x0004#16, [0x00#8, 0x00#8, 0x80#8, 0x00#8]), (0x00D0#16, [0x00#8, 0x99#8])])
      afterReset
    t.result = some 0x00008357#32 ∧ t.kind = .none ∧ t.dout = some 0xD0#8 ∧ t.trace.length = 133 ∧
    t.trace[101]? = some (.delay .setc) ∧
    bytesFrom (viewOf afterReset) t.trace =
      [cw 0x00#8, cw 0xDB#8, dr 0x00#8, dr 0x00#8, .frameEnd, cw 0x00#8, cw 0xDA#8, dr 0x00#8, dr 0x00#8, .frameEnd,
       cw 0x00#8, cw 0x04#8, dr 0x00#8, dr 0x00#8, dr 0x80#8, dr 0x00#8, .frameEnd,
       cw 0x00#8, cw 0xB9#8, dw 0xFF#8, dw 0x83#8, dw 0x57#8, .frameEnd,
       cw 0x00#8, cw 0xD0#8, dr 0x00#8, dr 0x99#8, dr 0x00#8, dr 0x00#8, .frameEnd] := by decide +kernel

/-- V52, V53, V54, and the known-good ID 0x9341 of K0. -/
theorem test_spawn :
    spawnBody k0Silent 0x7789#16 afterReset = { afterReset with kind := .known .st7789, result := some 5 } ∧
    spawnBody k0Silent 0x8357#16 afterReset = { afterReset with kind := .known .hx8357x, result := some 4 } ∧
    spawnBody k0Silent 0x0000#16 afterReset = { afterReset with kind := .unsupported, result := some 0 } ∧
    spawnBody k0Silent 0x9341#16 afterReset = { ready1 with result := some 2 } := by
  exact ⟨rfl, rfl, rfl, rfl⟩

/-- V55, V56. -/
theorem test_spawn_refused :
    refusalOf (exec (.spawn 0x9341#16) ready1) = some .alreadySpawned ∧
    refusalOf (exec (.spawn 0x7789#16) State.reset) = some .notConfigured := by decide

/-- V57, V58. -/
theorem test_begin :
    onBus ready1 (beginOn k0Silent ready1) =
      some [cw 0x00#8, cw 0x11#8, dw 0x00#8, .frameEnd, cw 0x00#8, cw 0x29#8, dw 0x00#8, .frameEnd] ∧
    (emitted (beginOn k0Silent ready1)).map (·.length) = some 33 ∧
    (emitted (beginOn k0Silent ready1)).map (·[16]?) = some (some (.delay (.init 120))) ∧
    refusalOf (exec .beginInit afterReset) = some .noVariant := by decide

/-- V59. -/
theorem test_read_id_unsupported : refusalOf (exec .readId unsupported) = some .unsupportedPanel := by decide

/-! ### BlitEngine -/

/-- V76, V77: T1's two frames, T2's eight. -/
theorem test_set_addr_window :
    onBus ready1 (setAddrWindowOn k0Silent 10 10 19 19 ready1) =
      some [cw 0x00#8, cw 0x2A#8, dw 0x00#8, dw 0x0A#8, dw 0x00#8, dw 0x13#8, .frameEnd,
            cw 0x00#8, cw 0x2B#8, dw 0x00#8, dw 0x0A#8, dw 0x00#8, dw 0x13#8, .frameEnd] ∧
    onBus ready2 (setAddrWindowOn k0Silent 10 10 19 19 ready2) =
      some [cw 0x00#8, cw 0x02#8, dw 0x00#8, .frameEnd, cw 0x00#8, cw 0x03#8, dw 0x0A#8, .frameEnd,
            cw 0x00#8, cw 0x04#8, dw 0x00#8, .frameEnd, cw 0x00#8, cw 0x05#8, dw 0x13#8, .frameEnd,
            cw 0x00#8, cw 0x06#8, dw 0x00#8, .frameEnd, cw 0x00#8, cw 0x07#8, dw 0x0A#8, .frameEnd,
            cw 0x00#8, cw 0x08#8, dw 0x00#8, .frameEnd, cw 0x00#8, cw 0x09#8, dw 0x13#8, .frameEnd] := by decide +kernel

/-- V80; V94, V95, V96, V97. -/
theorem test_flood :
    emitted (floodOn k0Silent 0xF800#16 1 ready1) =
      some [.cs 0, .cd 0, .dout 0x00#8, .wr 0, .delay .strobe, .wr 1, .dout 0x2C#8, .wr 0, .delay .strobe, .wr 1,
            .cd 1, .dout 0xF8#8, .wr 0, .delay .strobe, .wr 1, .dout 0x00#8, .wr 0, .delay .strobe, .wr 1, .cs 1] ∧
    refusalOf (exec (.flood 0xF800#16 0) ready1) = some .zeroCount ∧
    refusalOf (exec (.fillRect 0 0 0 1 1) afterReset) = some .noVariant ∧
    refusalOf (exec (.fillRect 0 0 0 1 1) unsupported) = some .unsupportedPanel ∧
    refusalOf (exec (.flood 0xF800#16 1) { ready1 with cs := some 0 }) = some .busBusy := by decide

/-- V81: both paths, 36 and 32 events, the same bytes. -/
theorem test_flood_paths :
    let slow := floodBody k0Silent recordT1 0xABAB#16 3 ready1
    let fast := floodBody { k0Silent with strobeOnlyFlood := true } recordT1 0xABAB#16 3 ready1
    slow.trace.length = 36 ∧ fast.trace.length = 32 ∧
    bytesFrom (viewOf ready1) fast.trace = bytesFrom (viewOf ready1) slow.trace ∧
    bytesFrom (viewOf ready1) slow.trace =
      [cw 0x00#8, cw 0x2C#8, dw 0xAB#8, dw 0xAB#8, dw 0xAB#8, dw 0xAB#8, dw 0xAB#8, dw 0xAB#8, .frameEnd] ∧
    (floodBlocks 119, floodRemainder 119) = (1, 55) := by decide

/-- V88, V89: a first burst and a continuation. -/
theorem test_push_colors :
    onBus withBurst (pushColorsOn k0Silent true 2 7 withBurst) =
      some [cw 0x00#8, cw 0x2C#8, dw 0x12#8, dw 0x34#8, dw 0xAB#8, dw 0xCD#8, .frameEnd] ∧
    emitted (pushColorsOn k0Silent false 2 9 withBurst) =
      some [.cs 0, .cd 1, .dout 0x00#8, .wr 0, .delay .strobe, .wr 1, .dout 0x00#8, .wr 0, .delay .strobe, .wr 1,
            .dout 0xFF#8, .wr 0, .delay .strobe, .wr 1, .dout 0xFF#8, .wr 0, .delay .strobe, .wr 1, .cs 1] := by decide

/-- V90, V91, V92, V93. -/
theorem test_push_colors_edges :
    onBus withBurst (pushColorsOn k0Silent true 0 7 withBurst) = some [cw 0x00#8, cw 0x2C#8, .frameEnd] ∧
    emitted (pushColorsOn k0Silent false 0 7 withBurst) = some [.cs 0, .cd 1, .cs 1] ∧
    refusalOf (exec (.pushColors true 2 10) withBurst) = some .bufferUndefined ∧
    refusalOf (exec (.pushColors true 2 0xFFFFFFFF#32) withBurst) = some .bufferRange := by decide

/-- V82, S3: one burst; what it leaves on SimPanel, and that the slow path leaves the same. -/
theorem test_draw_bitmap_inside :
    let fast := bitmapBody k0Silent recordT1 10 20 2 1 [0x1111#16, 0x2222#16] ready1
    let slow := bitmapRows k0Silent recordT1 10 2 1 20 [0x1111#16, 0x2222#16] ready1
    bytesFrom (viewOf ready1) fast.trace =
      [cw 0x00#8, cw 0x2A#8, dw 0x00#8, dw 0x0A#8, dw 0x00#8, dw 0x0B#8, .frameEnd,
       cw 0x00#8, cw 0x2B#8, dw 0x00#8, dw 0x14#8, dw 0x00#8, dw 0x14#8, .frameEnd,
       cw 0x00#8, cw 0x2C#8, dw 0x11#8, dw 0x11#8, dw 0x22#8, dw 0x22#8, .frameEnd] ∧
    ([slow, fast].map fun s =>
      ((bytesFrom (viewOf ready1) s.trace).foldl SimPanel.takeItem (SimPanel.fresh 0 [])).gram) =
      [[((11, 20), 0x2222#16), ((10, 20), 0x1111#16)], [((11, 20), 0x2222#16), ((10, 20), 0x1111#16)]] := by decide +kernel

/-- V83, P5: the third pixel is skipped; V85: no event; V87: cells without a value. -/
theorem test_draw_bitmap_outside :
    onBus withBitmap (drawBitmapOn k0Silent 238 0 3 1 100 withBitmap) =
      some [cw 0x00#8, cw 0x2A#8, dw 0x00#8, dw 0xEE#8, dw 0x00#8, dw 0xEE#8, .frameEnd,
            cw 0x00#8, cw 0x2B#8, dw 0x00#8, dw 0x00#8, dw 0x00#8, dw 0x00#8, .frameEnd,
            cw 0x00#8, cw 0x2C#8, dw 0x11#8, dw 0x11#8, .frameEnd,
            cw 0x00#8, cw 0x2A#8, dw 0x00#8, dw 0xEF#8, dw 0x00#8, dw 0xEF#8, .frameEnd,
            cw 0x00#8, cw 0x2B#8, dw 0x00#8, dw 0x00#8, dw 0x00#8, dw 0x00#8, .frameEnd,
            cw 0x00#8, cw 0x2C#8, dw 0x22#8, dw 0x22#8, .frameEnd] ∧
    emitted (drawBitmapOn k0Silent 240 0 3 2 100 withBitmap) = some [] ∧
    emitted (drawBitmapOn k0Silent 0 0 0 2 100 withBitmap) = some [] ∧
    refusalOf (exec (.drawBitmap 10 20 3 3 100) withBitmap) = some .bufferUndefined := by decide +kernel

/-- V73; V75: off the right and off the left edge. -/
theorem test_draw_pixel :
    onBus ready1 (drawPixelOn k0Silent 0x07E0#16 239 319 ready1) =
      some [cw 0x00#8, cw 0x2A#8, dw 0x00#8, dw 0xEF#8, dw 0x00#8, dw 0xEF#8, .frameEnd,
            cw 0x00#8, cw 0x2B#8, dw 0x01#8, dw 0x3F#8, dw 0x01#8, dw 0x3F#8, .frameEnd,
            cw 0x00#8, cw 0x2C#8, dw 0x07#8, dw 0xE0#8, .frameEnd] ∧
    emitted (drawPixelOn k0Silent 0x07E0#16 240 0 ready1) = some [] ∧
    emitted (drawPixelOn k0Silent 0x07E0#16 0xFFFF#16 0 ready1) = some [] := by decide +kernel

/-- The clips of V60, V63, V64, V67, V68 and V69. -/
theorem test_clip :
    clip (-5) 20 240 = some (0, 14) ∧ clip 10 8 320 = some (10, 17) ∧ clip 240 1 240 = none ∧
    clip (-10) 10 240 = none ∧ clip (-32768) 32767 240 = none ∧ clip (-10) 11 240 = some (0, 0) ∧
    clip 100 32767 240 = some (100, 239) ∧ clip 100 32767 320 = some (100, 319) := by decide

/-- V62: the last pixel; V63 and V66: no event. -/
theorem test_fill_rect :
    onBus ready1 (fillRectOn k0Silent 0xF800#16 239 319 5 5 ready1) =
      some [cw 0x00#8, cw 0x2A#8, dw 0x00#8, dw 0xEF#8, dw 0x00#8, dw 0xEF#8, .frameEnd,
            cw 0x00#8, cw 0x2B#8, dw 0x01#8, dw 0x3F#8, dw 0x01#8, dw 0x3F#8, .frameEnd,
            cw 0x00#8, cw 0x2C#8, dw 0xF8#8, dw 0x00#8, .frameEnd] ∧
    emitted (fillRectOn k0Silent 0xF800#16 240 0 1 1 ready1) = some [] ∧
    emitted (fillRectOn k0Silent 0xF800#16 5 5 5 0xFFFF#16 ready1) = some [] := by decide +kernel

/-- V71: 148 events and DOUT; the window's frames. -/
theorem test_draw_fast_hline :
    let r := hlineOn k0Silent 0xFFFF#16 230 5 20 ready1
    (emitted r).map (·.length) = some 148 ∧ (endOf r).map (·.dout) = some (some 0xFF#8) ∧
    (onBus ready1 r).map (·.take 14) =
      some [cw 0x00#8, cw 0x2A#8, dw 0x00#8, dw 0xE6#8, dw 0x00#8, dw 0xEF#8, .frameEnd,
            cw 0x00#8, cw 0x2B#8, dw 0x00#8, dw 0x05#8, dw 0x00#8, dw 0x05#8, .frameEnd] := by decide +kernel

/-- V72: seven pixels of 0x001F. -/
theorem test_draw_fast_vline :
    onBus ready1 (vlineOn k0Silent 0x001F#16 0 0xFFFD#16 10 ready1) =
      some ([cw 0x00#8, cw 0x2A#8, dw 0x00#8, dw 0x00#8, dw 0x00#8, dw 0x00#8, .frameEnd,
             cw 0x00#8, cw 0x2B#8, dw 0x00#8, dw 0x00#8, dw 0x00#8, dw 0x06#8, .frameEnd,
             cw 0x00#8, cw 0x2C#8] ++ (List.replicate 7 [dw 0x00#8, dw 0x1F#8]).flatten ++ [.frameEnd]) := by decide +kernel

/-! ### Steps -/

/-- P1's first step: a program's first act after power-on is RESET; anything else is refused (V34). -/
theorem test_first_step :
    (endOf (step (State.reset.withFetchWord 32 0x30000000))).map (·.phase) = some .configured ∧
    refusalOf (step (State.reset.withFetchWord 32 0x2000002C)) = some .notConfigured ∧
    refusalOf (step (State.reset.withFetchWord 32 0x19000000)) = some .badDescriptor := by decide

/-- P6 step 4: the refused act leaves the run where it was, marked. -/
theorem test_refused_run :
    runAct ⟨unsupported, false⟩ (.issue [0x45000000#32, 0x00000000#32, 0x00F00140#32]) = ⟨unsupported, true⟩ := by
  decide

end Sys2Proof.Machine
end

