-- ==== Sys2Proof/Tests/Witnesses.lean ====
section
/-! SUPPORT. For every statement of Obligations.lean that has hypotheses, a theorem that names states and operands which
meet them, one for each clause and at the ends of a range. -/

namespace Sys2Proof.Machine

/-- A panel coordinate of the board, as an operand field: the last column or row. -/
def lastOf (e : PanelExtent) : Half := BitVec.ofNat 16 e.pred.val

theorem lastOf_toInt (e : PanelExtent) : (lastOf e).toInt = e.size - 1 := by
  have h := e.pred.isLt
  have hn : (lastOf e).toNat = e.pred.val := by simp only [lastOf, BitVec.toNat_ofNat]; omega
  rw [BitVec.toInt_eq_toNat_of_lt (by omega), hn, PanelExtent.size]
  omega

/-! ### BusSignal -/

/-- ChipSelectPrimitivesDriveOnlyCs, CommandDataPrimitivesDriveOnlyCd and DirectionPrimitivesSwitchOnlyDir: CS idle and
CS active, either direction. -/
theorem witness_busSignalAdmitted :
    busSignalAdmitted afterReset ∧ afterReset.cs ≠ some 0 ∧ busSignalAdmitted framed ∧ framed.cs = some 0 ∧
    busSignalAdmitted reading ∧ busSignalAdmitted ready1 := by decide

/-- WrStrobePulsesWrAndKeepsDout, clause by clause. -/
theorem witness_wrStrobe :
    (busSignalAdmitted framed ∧ framed.dir = some .write ∧ framed.dout ≠ none ∧ framed.cs = some 0) ∧
    (busSignalAdmitted reading ∧ reading.dir ≠ some .write) ∧
    (busSignalAdmitted afterReset ∧ afterReset.dir = some .write ∧ afterReset.dout = none ∧
      afterReset.cs ≠ some 0) := by decide

/-- WriteByteLoadsThenStrobes, clause by clause; `framed` holds the byte that is written. -/
theorem witness_writeByte :
    (busSignalAdmitted framed ∧ framed.dir = some .write ∧ framed.dout = some 0x55#8 ∧ framed.cs = some 0) ∧
    (busSignalAdmitted reading ∧ reading.dir ≠ some .write) ∧
    (busSignalAdmitted afterReset ∧ afterReset.dir = some .write ∧ afterReset.cs ≠ some 0) := by decide

/-- ReadByteReturnsTheSampledByte, both clauses; the panel selected and not. -/
theorem witness_readByte :
    (busSignalAdmitted reading ∧ reading.dir = some .read ∧ reading.cs = some 0) ∧
    (let s : State := { reading with cs := some 1 }
     busSignalAdmitted s ∧ s.dir = some .read ∧ s.cs ≠ some 0) ∧
    (busSignalAdmitted framed ∧ framed.dir ≠ some .read) := by decide

/-! ### RegisterProtocol and detection -/

/-- WriteCommandLeavesTheFrameOpen, RegisterWritesSendOneFrame, WriteRegPairSendsTwoFrames, the two register reads and
ReadIdFollowsTheDetectionTable: with no variant selected, and with one. -/
theorem witness_registerAdmitted : registerAdmitted afterReset ∧ registerAdmitted ready1 := by decide

/-- RegisterFramesOnTheBus and PixelStreamFramesOnTheBus, their clauses about frames; the operations are admitted by
witness_registerAdmitted and witness_pushColors. -/
theorem witness_viewInWriteDirection : (viewOf ready1).dir = some .write := by decide

/-- AfterResetThePanelHasSettled and ResetSendsNothingOverTheBus, both ways of their conditions. -/
theorem witness_resetCases :
    k0Silent.hasResetPin = true ∧ ({ k0Silent with hasResetPin := false } : Config).hasResetPin = false ∧
    framed.cs = some 0 ∧ afterReset.cs ≠ some 0 := by decide

/-- A panel that answers `st` at 0x0004 and `c` at 0x00D0. -/
def probed (st c : List Byte) : Config := k0 0 [(0x0004#16, st), (0x00D0#16, c)]

/-- The four reads of ReadIdDecidesByPriority, on a freshly reset block. -/
def statusRead (cfg : Config) : Word × State :=
  readReg32Body cfg 0x0004#16 (readExtId cfg 0x00DA#16 (readExtId cfg 0x00DB#16 afterReset).2).2

def confirmationRead (cfg : Config) : Word × State :=
  readReg32Body cfg 0x00D0#16 (delay .setc (setcBody cfg (statusRead cfg).2))

/-- ReadIdDecidesByPriority, its first four clauses. -/
theorem witness_readIdPriority :
    (statusRead (probed [0xFF#8, 0x85#8, 0x85#8, 0x52#8] [])).1 = 0xFF858552#32 ∧
    (let cfg := probed [0x00#8, 0x00#8, 0x80#8, 0x00#8] [0x00#8, 0x99#8, 0x00#8, 0x00#8]
     (statusRead cfg).1 = 0x00008000#32 ∧ (confirmationRead cfg).1 = 0x00990000#32) ∧
    (let cfg := probed [0x00#8, 0x00#8, 0x80#8, 0x00#8] [0x00#8, 0x12#8, 0x34#8, 0x56#8]
     (statusRead cfg).1 = 0x00008000#32 ∧ (confirmationRead cfg).1 ≠ 0x00990000#32) ∧
    (let cfg := probed [0x00#8, 0x01#8, 0x80#8, 0x00#8] []
     (statusRead cfg).1 ≠ 0xFF858552#32 ∧ (statusRead cfg).1 ≠ 0x00008000#32) := by
  decide +kernel

/-- ReadIdDecidesByPriority, its last clause: each known-good ID, the upper half not zero in one; and neither. -/
theorem witness_knownGoodId :
    let low (d : List Byte) : Half := (readReg32Body (k0 0 [(0x00D3#16, d)]) 0x00D3#16 afterReset).1.extractLsb' 0 16
    low [0x12#8, 0x34#8, 0x93#8, 0x41#8] = 0x9341#16 ∧ low [0x00#8, 0x00#8, 0x93#8, 0x38#8] = 0x9338#16 ∧
    low [0x00#8, 0x00#8, 0x93#8, 0x25#8] ≠ 0x9341#16 ∧ low [0x00#8, 0x00#8, 0x93#8, 0x25#8] ≠ 0x9338#16 := by
  decide +kernel

/-- SpawnSelectsTheVariantOnce, both clauses. -/
theorem witness_spawn :
    (afterReset.phase = .configured ∧ afterReset.kind = .none) ∧
    (ready1.phase = .configured ∧ ready1.kind ≠ .none) := by decide

/-! ### BlitEngine -/

/-- BeginPlaysTheInitSequence, SetAddrWindowPlaysTheWindowSequence, DrawPixelPlacesOnePixelOrNothing. -/
theorem witness_variantAdmitted : variantAdmitted .ili9341 ready1 ∧ variantAdmitted .hx8347g ready2 := by decide

/-- FloodSendsThePreambleAndCountPixels and FloodBytesDoNotDependOnThePath: the least and the greatest count, and 0. -/
theorem witness_flood :
    variantAdmitted .ili9341 ready1 ∧ (1 : Word) ≠ 0 ∧ 0xFFFFFFFF#32 ≠ 0 ∧ (0 : Word) = 0 := by decide

/-- FloodPathsAreBusEquivalent: a colour of two equal bytes. -/
theorem witness_floodPaths :
    (1 : Nat) ≤ 1 ∧ (0x5555#16).extractLsb' 8 8 = (0x5555#16).extractLsb' 0 8 := by decide

/-- PushColorsSendsTheCellsVerbatim and PixelStreamFramesOnTheBus: two cells; no cell, at the last index. -/
theorem witness_pushColors :
    variantAdmitted .ili9341 withBurst ∧ (7#32).toNat + (2#32).toNat ≤ 2 ^ 32 ∧
    (∀ k, k < (2#32).toNat →
      Memory.read withBurst.buf ((7#32).toNat + k) = some (if k = 0 then 0x1234#16 else 0xABCD#16)) ∧
    (0xFFFFFFFF#32).toNat + (0#32).toNat ≤ 2 ^ 32 := by decide

/-- READY1 with one cell of BUF, the last one. -/
def withLastCell : State := { ready1 with buf := [(0xFFFFFFFF, 0x1234#16)] }

/-- DrawBitmapInsideIsOneWindowAndOneBurst on any board: the first pixel of the panel and the last one, from the last
cell of BUF. -/
theorem witness_drawBitmapInside :
    let v := Config.board.variant .ili9341
    variantAdmitted .ili9341 withLastCell ∧
    (∀ p : Half × Half, p = (0, 0) ∨ p = (lastOf v.width, lastOf v.height) →
      0 ≤ p.1.toInt ∧ 0 ≤ p.2.toInt ∧ 0 < (1#16).toInt ∧
      p.1.toInt + (1#16).toInt ≤ v.width.size ∧ p.2.toInt + (1#16).toInt ≤ v.height.size) ∧
    (0xFFFFFFFF#32).toNat + ((1#16).toInt * (1#16).toInt).toNat ≤ 2 ^ 32 ∧
    (∀ k, k < ((1#16).toInt * (1#16).toInt).toNat →
      Memory.read withLastCell.buf ((0xFFFFFFFF#32).toNat + k) = some 0x1234#16) := by
  intro v
  refine ⟨by decide, ?_, by decide, by decide⟩
  have hw := size_bounds v.width
  have hh := size_bounds v.height
  rintro p (rfl | rfl)
  · simp; omega
  · simp [lastOf_toInt]; omega

/-- DrawBitmapOutsideIsPixelByPixel on any board: one pixel above the panel, and one pixel past its last column. -/
theorem witness_drawBitmapOutside :
    let v := Config.board.variant .ili9341
    variantAdmitted .ili9341 withBurst ∧ 0 < (1#16).toInt ∧ 0 < (2#16).toInt ∧
    ¬(0 ≤ (0#16).toInt ∧ 0 ≤ (0xFFFF#16).toInt ∧ (0#16).toInt + (1#16).toInt ≤ v.width.size ∧
      (0xFFFF#16).toInt + (2#16).toInt ≤ v.height.size) ∧
    ¬(0 ≤ (lastOf v.width).toInt ∧ 0 ≤ (0#16).toInt ∧ (lastOf v.width).toInt + (2#16).toInt ≤ v.width.size ∧
      (0#16).toInt + (1#16).toInt ≤ v.height.size) ∧
    (7#32).toNat + ((1#16).toInt * (2#16).toInt).toNat ≤ 2 ^ 32 ∧
    (∀ k, k < ((1#16).toInt * (2#16).toInt).toNat →
      Memory.read withBurst.buf ((7#32).toNat + k) = some (if k = 0 then 0x1234#16 else 0xABCD#16)) := by
  intro v
  refine ⟨by decide, by decide, by decide, by simp, ?_, by decide, by decide⟩
  simp only [lastOf_toInt]
  have : (2#16).toInt = 2 := by decide
  omega

/-- DrawPixelPlacesOnePixelOrNothing's second clause on any board: off each edge. -/
theorem witness_drawPixelOutside :
    (0xFFFF#16).toInt < 0 ∧ ((Config.board.variant .ili9341).width.size : Int) ≤ (0x7FFF#16).toInt ∧
    ((Config.board.variant .ili9341).height.size : Int) ≤ (0x7FFF#16).toInt := by
  have hw := size_bounds (Config.board.variant .ili9341).width
  have hh := size_bounds (Config.board.variant .ili9341).height
  have : (0x7FFF#16).toInt = 32767 := by decide
  refine ⟨by decide, by omega, by omega⟩

/-- FillRectFillsThePartInside on any board: a rectangle that reaches the panel by its last column and row only, and
one that starts in the panel's last pixel. -/
theorem witness_fillRect :
    let v := Config.board.variant .ili9341
    variantAdmitted .ili9341 ready1 ∧ 0 < (2#16).toInt ∧
    ((0xFFFF#16).toInt < v.width.size ∧ 0 ≤ (0xFFFF#16).toInt + (2#16).toInt - 1 ∧
      (0xFFFF#16).toInt < v.height.size) ∧
    ((lastOf v.width).toInt < v.width.size ∧ 0 ≤ (lastOf v.width).toInt + (2#16).toInt - 1 ∧
      (lastOf v.height).toInt < v.height.size ∧ 0 ≤ (lastOf v.height).toInt + (2#16).toInt - 1) := by
  intro v
  have h1 : (0xFFFF#16).toInt = -1 := by decide
  have h2 : (2#16).toInt = 2 := by decide
  have hw := size_bounds v.width
  have hh := size_bounds v.height
  simp only [lastOf_toInt]
  refine ⟨by decide, ?_, ?_, ?_⟩ <;> omega

/-- FastLinesFillThePartInside on any board: both clauses at the panel's first and last pixel. -/
theorem witness_fastLines :
    let v := Config.board.variant .ili9341
    variantAdmitted .ili9341 ready1 ∧ 0 < (1#16).toInt ∧
    (∀ p : Half × Half, p = (0, 0) ∨ p = (lastOf v.width, lastOf v.height) →
      p.1.toInt < v.width.size ∧ 0 ≤ p.1.toInt + (1#16).toInt - 1 ∧ 0 ≤ p.2.toInt ∧ p.2.toInt < v.height.size ∧
      0 ≤ p.2.toInt + (1#16).toInt - 1 ∧ 0 ≤ p.1.toInt) := by
  intro v
  have h1 : (1#16).toInt = 1 := by decide
  have hw := size_bounds v.width
  have hh := size_bounds v.height
  refine ⟨by decide, by decide, ?_⟩
  rintro p (rfl | rfl)
  · simp; omega
  · simp only [lastOf_toInt]; omega

/-- OffScreenRequestsAreSilent, on any board: every disjunct of its clauses, at the edge where it begins. `0x7FFF` is
right of and below every panel. -/
theorem witness_offScreen :
    let v := Config.board.variant .ili9341
    variantAdmitted .ili9341 withBurst ∧ (0#16).toInt ≤ 0 ∧ (0xFFFF#16).toInt < 0 ∧
    (0xFFFF#16).toInt + (1#16).toInt - 1 < 0 ∧ (v.width.size : Int) ≤ (0x7FFF#16).toInt ∧
    (v.height.size : Int) ≤ (0x7FFF#16).toInt ∧ 0 < (1#16).toInt ∧
    (7#32).toNat + ((1#16).toInt * (1#16).toInt).toNat ≤ 2 ^ 32 ∧
    (∀ k, k < ((1#16).toInt * (1#16).toInt).toNat → Memory.read withBurst.buf ((7#32).toNat + k) ≠ none) := by
  intro v
  have hw := size_bounds v.width
  have hh := size_bounds v.height
  have : (0x7FFF#16).toInt = 32767 := by decide
  refine ⟨by decide, by decide, by decide, by decide, by omega, by omega, by decide, by decide, by decide⟩

/-- ClipIsTheIntersection: the least panel; an answer and none. -/
theorem witness_clip :
    (1 : Int) ≤ 1 ∧ clip (-1) 2 1 = some (0, 0) ∧ clip 1 1 1 = none ∧ clip (-1) 1 1 = none ∧ clip 0 0 1 = none := by
  decide

/-- CompositeDrawingUsesOnlyValidWindows: two variants that differ in an invalid window and in no valid one. -/
theorem witness_composite :
    let v' : VariantRecord := { recordT1 with
      windowSeq := fun x1 y1 x2 y2 => if x1.toNat ≤ x2.toNat then recordT1.windowSeq x1 y1 x2 y2 else [] }
    recordT1.width = v'.width ∧ recordT1.height = v'.height ∧ recordT1.gramWrite = v'.gramWrite ∧
    (∀ x1 y1 x2 y2 : Half, x1.toNat ≤ x2.toNat → x2.toNat < recordT1.width.size → y1.toNat ≤ y2.toNat →
      y2.toNat < recordT1.height.size → recordT1.windowSeq x1 y1 x2 y2 = v'.windowSeq x1 y1 x2 y2) ∧
    recordT1.windowSeq 1 0 0 0 ≠ v'.windowSeq 1 0 0 0 ∧ 0 < (1#16).toInt := by
  refine ⟨rfl, rfl, rfl, fun x1 y1 x2 y2 h _ _ _ => by simp [h], by decide, by decide⟩

/-! ### Every operation -/

/-- RefusedExactlyForTheFirstReason: each reason that an operation can meet is met. -/
theorem witness_refusals :
    refusalOf (exec .csAssert State.reset) = some .notConfigured ∧
    refusalOf (exec .csAssert unsupported) = some .unsupportedPanel ∧
    refusalOf (exec .beginInit framed) = some .noVariant ∧
    refusalOf (exec (.spawn 0) ready1) = some .alreadySpawned ∧
    refusalOf (exec .readId reading) = some .busBusy ∧
    refusalOf (exec (.writeByte 0) reading) = some .wrongDirection ∧
    refusalOf (exec .readByte framed) = some .wrongDirection ∧
    refusalOf (exec .wrStrobe afterReset) = some .doutUndefined ∧
    refusalOf (exec (.flood 0 0) ready1) = some .zeroCount ∧
    refusalOf (exec (.pushColors true 1 0xFFFFFFFF#32) ready1) = some .bufferUndefined ∧
    refusalOf (exec (.pushColors true 2 0xFFFFFFFF#32) ready1) = some .bufferRange := by decide

/-- RefusedExactlyForTheFirstReason: no reason applies. -/
theorem witness_noReason : ∀ r, ¬ reasonApplies r .reset State.reset := by
  intro r
  cases r <;> simp [reasonApplies, admissionClass, cellsNeeded]

/-- OnlyResetIsAdmittedUnconfigured. -/
theorem witness_unconfigured : State.reset.phase = .unconfigured ∧ Instr.readId ≠ .reset := by decide

/-- CompleteOperationsKeepTheBusAtRest, and DirectionIsBackAtWrite's clauses about register operations. -/
theorem witness_atRest :
    admissionClass (.readReg16 0) ≠ .busSignal ∧ (∀ cmd, Instr.readReg16 0 ≠ .writeCommand cmd) ∧
    busAtRest afterReset ∧ admissionClass (.readReg16 0) = .register ∧ afterReset.dir = some .write ∧
    ∃ t, exec (.readReg16 0) afterReset = .next t :=
  ⟨by decide, by simp, by decide, by decide, by decide, _, rfl⟩

/-- EveryLatchChangeIsAnEvent, OnlyTheNamedWritersWriteState, DirectionIsBackAtWrite, ExactlyFiveOperationsReturnAWord:
an operation of each family completes. -/
theorem witness_completes :
    (∃ t, exec .setDirRead afterReset = .next t) ∧ (∃ t, exec .readByte reading = .next t) ∧
    (∃ t, exec .reset State.reset = .next t) ∧ (∃ t, exec (.spawn 0) afterReset = .next t) ∧
    (∃ t, exec (.drawPixel 0 0 0) ready1 = .next t) ∧
    ∃ t, exec (.drawBitmap 0 0 1 1 7) withBurst = .next t :=
  ⟨⟨_, rfl⟩, ⟨_, rfl⟩, ⟨_, rfl⟩, ⟨_, rfl⟩, ⟨_, rfl⟩, ⟨_, rfl⟩⟩

/-! ### Steps and runs -/

/-- StepRunsTheDecodedOperation: a descriptor that decodes, one that does not. -/
theorem witness_decodes :
    decode [0x30000000#32] = .ok .reset ∧ decode [0x19000000#32] = .error .unknownOpcode := by decide

/-- The four invariants of steps, from power-on: RESET is the first act. -/
theorem witness_stepFromPowerOn :
    let s : State := { State.reset with pending := [.issue [0x30000000#32]] }
    Inv s ∧ traceAgrees s ∧ quietFrom none s.trace = true ∧ modeOf s = some .unconfigured ∧
    ∃ t, step s = .next t :=
  ⟨by decide, by decide, by decide, by decide, _, rfl⟩

/-- A state of the board after RESET, with a trace that says so and one act to come. -/
def boardReady (k : KindReg) (a : HostAct) : State :=
  { afterReset with
    kind := k
    rst := if Config.board.hasResetPin then some 1 else none
    trace := [.cs 1, .cd 1, .wr 1, .rd 1, .dir .write] ++ if Config.board.hasResetPin then [.rst 1] else []
    pending := [a] }

/-- The same invariants in a configured state in which a register read runs. -/
theorem witness_stepConfigured :
    let s := boardReady .none (.issue [0x26000000#32])
    Inv s ∧ traceAgrees s ∧ quietFrom none s.trace = true ∧ ∃ t, step s = .next t := by
  refine ⟨?_, ?_, ?_, _, rfl⟩
  · refine ⟨by decide, fun h => absurd h (by decide), fun _ => ?_⟩
    refine ⟨by simp [boardReady, afterReset], by simp [boardReady, afterReset], by simp [boardReady, afterReset], rfl,
      rfl, rfl⟩
  · show replay _ = latchesOf _
    by_cases h : Config.board.hasResetPin <;> simp [boardReady, afterReset, h, replay, latchStep, latchesOf]
  · by_cases h : Config.board.hasResetPin <;> simp [boardReady, h, quietFrom, eventQuiet]

/-- ModesOnlyAdvance: a step that stays, one that goes to Ready and one that goes to Unsupported. -/
theorem witness_modes :
    (modeOf (boardReady .none (.issue [0x2000002C#32])) = some .probing ∧
      ∃ t, step (boardReady .none (.issue [0x2000002C#32])) = .next t ∧ modeOf t = some .probing) ∧
    (∃ t, step (boardReady .none (.issue [0x32007789#32])) = .next t ∧ modeOf t = some .ready) ∧
    (∃ t, step (boardReady .none (.issue [0x32000000#32])) = .next t ∧ modeOf t = some .unsupported) :=
  ⟨⟨rfl, _, rfl, rfl⟩, ⟨_, rfl, rfl⟩, ⟨_, rfl, rfl⟩⟩

/-- KindIsSelectedOnce and UnsupportedPanelIsNeverWrittenAgain. -/
theorem witness_selected :
    ready1.kind ≠ .none ∧ unsupported.kind = .unsupported ∧
    (∃ t, step { ready1 with pending := [.issue [0x30000000#32]] } = .next t) ∧
    ∃ t, takeAct (.issue [0x30000000#32]) unsupported = .next t :=
  ⟨by decide, by decide, ⟨_, rfl⟩, ⟨_, rfl⟩⟩

/-- EventsHappenInProgramOrder. -/
theorem witness_programOrder : ∃ t, step { ready1 with pending := [.issue [0x2000002C#32]] } = .next t := ⟨_, rfl⟩

/-- RefusalMarksTheRunForGood, clause by clause. -/
theorem witness_run :
    takeAct (.issue [0x31000000#32]) unsupported = .refused .unsupportedPanel ∧
    takeAct (.bufStore 7 0x1234#16) ready1 = .next { ready1 with buf := [(7, 0x1234#16)] } ∧
    (⟨unsupported, true⟩ : Run).refused = true :=
  ⟨rfl, rfl, rfl⟩

/-- EveryOperationHasOneDescriptor. -/
theorem witness_descriptor : decode [0x4100F800#32, 0x00000064#32] = .ok (.flood 0xF800#16 100) := by decide

end Sys2Proof.Machine
end

section
/-! PROOF. Every operation appends events and leaves the latches as those events drive them (spec/00_scope.md R9,
spec/10_state.md R21, R22, R24). Each body is shown to be such a run of events from the body lemmas of
Laws/Bodies.lean; admission, the result word, PHASE and KIND touch neither the trace nor a latch. -/

namespace Sys2Proof.Machine

/-! ### The relation -/

/-- `t` comes from `s` by some events: the trace grows by them and the latches end as they drive them. What is
neither trace nor latch is left open. -/
def FollowsEvents (s t : State) : Prop :=
  ∃ ev : List Event, t.trace = s.trace ++ ev ∧ latchesOf t = ev.foldl latchStep (latchesOf s)

theorem followsEvents_of_eq_afterEvents {s t : State} {ev : List Event} (h : t = afterEvents s ev) :
    FollowsEvents s t := by
  subst h
  exact ⟨ev, rfl, rfl⟩

/-- What changes neither the trace nor a latch is a run of no events. -/
theorem followsEvents_of_unchanged {s t : State} (htrace : t.trace = s.trace)
    (hlatches : latchesOf t = latchesOf s) : FollowsEvents s t :=
  ⟨[], by simp [htrace], hlatches⟩

theorem followsEvents_refl (s : State) : FollowsEvents s s := followsEvents_of_unchanged rfl rfl

theorem FollowsEvents.trans {s t u : State} (hst : FollowsEvents s t) (htu : FollowsEvents t u) :
    FollowsEvents s u := by
  obtain ⟨ev₁, htrace₁, hlatches₁⟩ := hst
  obtain ⟨ev₂, htrace₂, hlatches₂⟩ := htu
  exact ⟨ev₁ ++ ev₂, by rw [htrace₂, htrace₁, List.append_assoc],
    by rw [hlatches₂, hlatches₁, List.foldl_append]⟩

/-- A trace that says what the latches hold still does after a run of events. -/
theorem FollowsEvents.traceAgrees {s t : State} (h : FollowsEvents s t) (hs : traceAgrees s) :
    traceAgrees t := by
  obtain ⟨ev, htrace, hlatches⟩ := h
  calc replay t.trace = ev.foldl latchStep (replay s.trace) := by rw [htrace, replay_append]
    _ = ev.foldl latchStep (latchesOf s) := by rw [hs]
    _ = latchesOf t := hlatches.symm

theorem clearResult_followsEvents (s : State) : FollowsEvents s (clearResult s) :=
  followsEvents_of_unchanged rfl rfl

/-- Returning a word keeps the run of events that led to it. -/
theorem FollowsEvents.returns {s t : State} (h : FollowsEvents s t) (v : Word) :
    FollowsEvents s (returns v t) :=
  h.trans (followsEvents_of_unchanged rfl rfl)

/-! ### Admission (spec/60_exceptions.md R154): it adds nothing to what the body does -/

theorem perform_followsEvents {reqs : List Requirement} {body : State → State} {s t : State}
    (hbody : ∀ u, FollowsEvents u (body u)) (h : perform reqs body s = .next t) : FollowsEvents s t := by
  obtain ⟨-, rfl⟩ := perform_next h
  exact (clearResult_followsEvents s).trans (hbody _)

theorem performVariant_followsEvents {cfg : Config} {k : VariantRecord → State → Result} {s t : State}
    (hk : ∀ v u w, k v u = .next w → FollowsEvents u w) (h : performVariant cfg k s = .next t) :
    FollowsEvents s t := by
  obtain ⟨κ, -, hbody⟩ := performVariant_next_admitted h
  exact (clearResult_followsEvents s).trans (hk _ _ _ hbody)

/-- A variant operation that completes wherever it is admitted. -/
theorem performVariant_next_followsEvents {cfg : Config} {body : VariantRecord → State → State} {s t : State}
    (hbody : ∀ v u, FollowsEvents u (body v u))
    (h : performVariant cfg (fun v u => .next (body v u)) s = .next t) : FollowsEvents s t := by
  refine performVariant_followsEvents (fun v u w hw => ?_) h
  cases hw
  exact hbody v u

/-! ### BusSignal and RegisterProtocol bodies -/

theorem driveCs_followsEvents (b : Level) (s : State) : FollowsEvents s (driveCs b s) :=
  ⟨[.cs b], rfl, rfl⟩

theorem driveCd_followsEvents (b : Level) (s : State) : FollowsEvents s (driveCd b s) :=
  ⟨[.cd b], rfl, rfl⟩

theorem setDir_followsEvents (d : Dir) (s : State) : FollowsEvents s (setDir d s) :=
  ⟨[.dir d], rfl, rfl⟩

theorem delay_followsEvents (k : DelayKind) (s : State) : FollowsEvents s (delay k s) :=
  ⟨[.delay k], rfl, rfl⟩

theorem strobeWrite_followsEvents (s : State) : FollowsEvents s (strobeWrite s) :=
  followsEvents_of_eq_afterEvents (strobeWrite_after s)

theorem sendByte_followsEvents (v : Byte) (s : State) : FollowsEvents s (sendByte v s) :=
  followsEvents_of_eq_afterEvents (sendByte_after v s)

theorem readByteBody_followsEvents (cfg : Config) (s : State) : FollowsEvents s (readByteBody cfg s) := by
  have hrecv : FollowsEvents s (recvByte cfg s).2 := by
    rw [recvByte_eq]
    exact ⟨rbEvents _, rfl, rfl⟩
  exact hrecv.returns _

theorem commandBody_followsEvents (cmd : Half) (s : State) : FollowsEvents s (commandBody cmd s) :=
  followsEvents_of_eq_afterEvents (commandBody_after cmd s)

theorem writeRegBody_followsEvents (addr : Half) (data : List Byte) (s : State) :
    FollowsEvents s (writeRegBody addr data s) :=
  followsEvents_of_eq_afterEvents (writeRegBody_after addr data s)

theorem writePairBody_followsEvents (addrHigh addrLow data : Half) (s : State) :
    FollowsEvents s (writePairBody addrHigh addrLow data s) :=
  followsEvents_of_eq_afterEvents (writePairBody_after addrHigh addrLow data s)

theorem readRegBody_followsEvents (cfg : Config) (addr : Half) {n : Nat} (hn : 0 < n) (s : State) :
    FollowsEvents s (readRegBody cfg addr n s).2 := by
  obtain ⟨seen, -, hread⟩ := readRegBody_after cfg addr n s hn
  exact followsEvents_of_eq_afterEvents (congrArg Prod.snd hread)

theorem readReg16Body_followsEvents (cfg : Config) (addr : Half) (s : State) :
    FollowsEvents s (readReg16Body cfg addr s).2 :=
  readRegBody_followsEvents cfg addr (by decide) s

theorem readReg32Body_followsEvents (cfg : Config) (addr : Half) (s : State) :
    FollowsEvents s (readReg32Body cfg addr s).2 :=
  readRegBody_followsEvents cfg addr (by decide) s

theorem readReg16Returning_followsEvents (cfg : Config) (addr : Half) (s : State) :
    FollowsEvents s (readReg16Returning cfg addr s) :=
  (readReg16Body_followsEvents cfg addr s).returns _

theorem readReg32Returning_followsEvents (cfg : Config) (addr : Half) (s : State) :
    FollowsEvents s (readReg32Returning cfg addr s) :=
  (readReg32Body_followsEvents cfg addr s).returns _

/-! ### Start-up and detection -/

theorem idlePins_followsEvents (s : State) : FollowsEvents s (idlePins s) :=
  ⟨[.cfg, .cs 1, .cd 1, .wr 1, .rd 1, .dir .write], by simp [idlePins], rfl⟩

theorem pulseReset_followsEvents (s : State) : FollowsEvents s (pulseReset s) :=
  ⟨[.rst 1, .rst 0, .delay .resetLow, .rst 1, .delay .resetHigh], by simp [pulseReset], rfl⟩

theorem resetBody_followsEvents (cfg : Config) (s : State) : FollowsEvents s (resetBody cfg s) := by
  have hpins : FollowsEvents s (if cfg.hasResetPin then pulseReset (idlePins s) else idlePins s) := by
    split
    · exact (idlePins_followsEvents s).trans (pulseReset_followsEvents _)
    · exact idlePins_followsEvents s
  exact hpins.trans (followsEvents_of_unchanged rfl rfl)

theorem readExtId_followsEvents (cfg : Config) (addr : Half) (s : State) :
    FollowsEvents s (readExtId cfg addr s).2 := by
  unfold readExtId
  split
  · exact readReg16Body_followsEvents cfg addr s
  · exact readReg32Body_followsEvents cfg addr s

theorem detectStep1_followsEvents (cfg : Config) (s : State) : FollowsEvents s (detectStep1 cfg s).2.2 :=
  ((readExtId_followsEvents cfg _ s).trans (readExtId_followsEvents cfg _ _)).trans
    (readReg32Body_followsEvents cfg _ _)

theorem setcBody_followsEvents (cfg : Config) (s : State) : FollowsEvents s (setcBody cfg s) := by
  unfold setcBody
  split <;> exact writeRegBody_followsEvents _ _ s

theorem detectStep3_followsEvents (cfg : Config) (s : State) : FollowsEvents s (detectStep3 cfg s).2 :=
  ((setcBody_followsEvents cfg s).trans (delay_followsEvents .setc _)).trans
    (readReg32Body_followsEvents cfg _ _)

theorem detectSteps45_followsEvents (cfg : Config) (s : State) :
    FollowsEvents s (detectSteps45 cfg s).2 := by
  have hread := readReg32Body_followsEvents cfg 0x00D3#16 s
  simp only [detectSteps45]
  split
  · exact hread
  · exact hread.trans (readReg16Body_followsEvents cfg _ _)

theorem readIdBody_followsEvents (cfg : Config) (s : State) : FollowsEvents s (readIdBody cfg s).2 := by
  have hone := detectStep1_followsEvents cfg s
  simp only [readIdBody]
  split
  · exact hone
  · split
    · have hthree := hone.trans (detectStep3_followsEvents cfg _)
      split
      · exact hthree
      · exact hthree.trans (detectSteps45_followsEvents cfg _)
    · exact hone.trans (detectSteps45_followsEvents cfg _)

theorem readIdReturning_followsEvents (cfg : Config) (s : State) :
    FollowsEvents s (readIdReturning cfg s) :=
  (readIdBody_followsEvents cfg s).returns _

theorem spawnBody_followsEvents (cfg : Config) (id : Half) (s : State) :
    FollowsEvents s (spawnBody cfg id s) := by
  unfold spawnBody
  split <;> exact followsEvents_of_unchanged rfl rfl

theorem playOps_followsEvents (ops : List RegOp) (s : State) : FollowsEvents s (playOps ops s) :=
  followsEvents_of_eq_afterEvents (playOps_after ops s)

/-! ### BlitEngine bodies -/

theorem floodFrame_followsEvents {rest : State → State} (hrest : ∀ u, FollowsEvents u (rest u)) (gw : Half)
    (color : Pixel) (s : State) : FollowsEvents s (floodFrame gw color rest s) := by
  have hpixel (u : State) : FollowsEvents u (sendPixel color u) :=
    followsEvents_of_eq_afterEvents (sendPixel_after color u)
  have hfirst := ((commandBody_followsEvents gw s).trans (driveCd_followsEvents cdData _)).trans (hpixel _)
  exact (hfirst.trans (hrest _)).trans (driveCs_followsEvents _ _)

/-- A flood of any count, also of none: no operation asks for that one. -/
theorem floodBody_followsEvents (cfg : Config) (v : VariantRecord) (color : Pixel) (count : Nat) (s : State) :
    FollowsEvents s (floodBody cfg v color count s) := by
  unfold floodBody
  split
  · exact followsEvents_of_eq_afterEvents (floodByStrobes_after _ color count s)
  · have hrest (u : State) : FollowsEvents u (repeatTimes (count - 1) (sendPixel color) u) :=
      followsEvents_of_eq_afterEvents (repeatTimes_after (sendPixel_after color) _ u)
    exact floodFrame_followsEvents hrest _ color s

theorem pushBody_followsEvents (v : VariantRecord) (first : Bool) (ps : List Pixel) (s : State) :
    FollowsEvents s (pushBody v first ps s) :=
  followsEvents_of_eq_afterEvents (pushBody_after v first ps s)

theorem setWindow_followsEvents (v : VariantRecord) (x1 y1 x2 y2 : Int) (s : State) :
    FollowsEvents s (setWindow v x1 y1 x2 y2 s) :=
  playOps_followsEvents _ s

theorem pixelBody_followsEvents (cfg : Config) (v : VariantRecord) (color : Pixel) (x y : Int) (s : State) :
    FollowsEvents s (pixelBody cfg v color x y s) :=
  followsEvents_of_eq_afterEvents (pixelBody_after cfg v color x y s)

theorem bitmapBody_followsEvents (cfg : Config) (v : VariantRecord) (x y w h : Int) (ps : List Pixel)
    (s : State) : FollowsEvents s (bitmapBody cfg v x y w h ps s) := by
  unfold bitmapBody
  split
  · exact (setWindow_followsEvents v _ _ _ _ s).trans (pushBody_followsEvents v true ps _)
  · obtain ⟨ev, hrows⟩ := bitmapRows_after cfg v x w.toNat h.toNat y ps s
    exact followsEvents_of_eq_afterEvents hrows

/-- The two parts of every fill and line. -/
theorem setWindow_floodBody_followsEvents (cfg : Config) (v : VariantRecord) (x1 y1 x2 y2 : Int)
    (color : Pixel) (count : Nat) (s : State) :
    FollowsEvents s (floodBody cfg v color count (setWindow v x1 y1 x2 y2 s)) :=
  (setWindow_followsEvents v x1 y1 x2 y2 s).trans (floodBody_followsEvents cfg v color count _)

theorem fillBody_followsEvents (cfg : Config) (v : VariantRecord) (color : Pixel) (x y w h : Int) (s : State) :
    FollowsEvents s (fillBody cfg v color x y w h s) := by
  unfold fillBody
  split
  · exact setWindow_floodBody_followsEvents cfg v _ _ _ _ color _ s
  · exact followsEvents_refl s

theorem hlineBody_followsEvents (cfg : Config) (v : VariantRecord) (color : Pixel) (x y len : Int)
    (s : State) : FollowsEvents s (hlineBody cfg v color x y len s) := by
  unfold hlineBody
  split
  · exact setWindow_floodBody_followsEvents cfg v _ _ _ _ color _ s
  · exact followsEvents_refl s

theorem vlineBody_followsEvents (cfg : Config) (v : VariantRecord) (color : Pixel) (x y len : Int)
    (s : State) : FollowsEvents s (vlineBody cfg v color x y len s) := by
  unfold vlineBody
  split
  · exact setWindow_floodBody_followsEvents cfg v _ _ _ _ color _ s
  · exact followsEvents_refl s

/-! ### The three operations that may still be refused after admission -/

theorem floodOn_followsEvents {cfg : Config} {color : Pixel} {count : Word} {s t : State}
    (h : floodOn cfg color count s = .next t) : FollowsEvents s t := by
  refine performVariant_followsEvents (fun v u w hw => ?_) h
  split at hw
  · cases hw
  · cases hw
    exact floodBody_followsEvents cfg v color _ u

theorem pushColorsOn_followsEvents {cfg : Config} {first : Bool} {count base : Word} {s t : State}
    (h : pushColorsOn cfg first count base s = .next t) : FollowsEvents s t := by
  refine performVariant_followsEvents (fun v u w hw => ?_) h
  obtain ⟨-, ps, -, hpush⟩ := withCells_next hw
  cases hpush
  exact pushBody_followsEvents v first ps u

theorem drawBitmapOn_followsEvents {cfg : Config} {x y w h : Half} {base : Word} {s t : State}
    (hexec : drawBitmapOn cfg x y w h base s = .next t) : FollowsEvents s t := by
  refine performVariant_followsEvents (fun v u u' hu => ?_) hexec
  split at hu
  · cases hu
    exact followsEvents_refl _
  · obtain ⟨-, ps, -, hdraw⟩ := withCells_next hu
    cases hdraw
    exact bitmapBody_followsEvents cfg v _ _ _ _ ps u

/-! ### Operations, acts and steps -/

/-- An operation that completes is a run of events. -/
theorem exec_followsEvents {i : Instr} {s t : State} (h : exec i s = .next t) : FollowsEvents s t := by
  cases i with
  | csAssert => exact perform_followsEvents (driveCs_followsEvents _) h
  | csIdle => exact perform_followsEvents (driveCs_followsEvents _) h
  | cdCommand => exact perform_followsEvents (driveCd_followsEvents _) h
  | cdData => exact perform_followsEvents (driveCd_followsEvents _) h
  | wrStrobe => exact perform_followsEvents strobeWrite_followsEvents h
  | writeByte v => exact perform_followsEvents (sendByte_followsEvents v) h
  | readByte => exact perform_followsEvents (readByteBody_followsEvents _) h
  | setDirWrite => exact perform_followsEvents (setDir_followsEvents _) h
  | setDirRead => exact perform_followsEvents (setDir_followsEvents _) h
  | writeCommand cmd => exact perform_followsEvents (commandBody_followsEvents cmd) h
  | writeReg8 addr data => exact perform_followsEvents (writeRegBody_followsEvents addr _) h
  | writeReg16 addr data => exact perform_followsEvents (writeRegBody_followsEvents addr _) h
  | writeReg24 addr data => exact perform_followsEvents (writeRegBody_followsEvents addr _) h
  | writeReg32 addr data => exact perform_followsEvents (writeRegBody_followsEvents addr _) h
  | writeRegPair addrHigh addrLow data =>
    exact perform_followsEvents (writePairBody_followsEvents addrHigh addrLow data) h
  | readReg16 addr => exact perform_followsEvents (readReg16Returning_followsEvents _ addr) h
  | readReg32 addr => exact perform_followsEvents (readReg32Returning_followsEvents _ addr) h
  | reset => exact perform_followsEvents (resetBody_followsEvents _) h
  | readId => exact perform_followsEvents (readIdReturning_followsEvents _) h
  | spawn id => exact perform_followsEvents (spawnBody_followsEvents _ id) h
  | beginInit => exact performVariant_next_followsEvents (fun v => playOps_followsEvents v.initSeq) h
  | setAddrWindow x1 y1 x2 y2 =>
    exact performVariant_next_followsEvents (fun v => playOps_followsEvents (v.windowSeq x1 y1 x2 y2)) h
  | flood color count => exact floodOn_followsEvents h
  | pushColors first count base => exact pushColorsOn_followsEvents h
  | drawBitmap x y w h' base => exact drawBitmapOn_followsEvents h
  | drawPixel color x y =>
    exact performVariant_next_followsEvents (fun v => pixelBody_followsEvents _ v color _ _) h
  | fillRect color x y w h' =>
    exact performVariant_next_followsEvents (fun v => fillBody_followsEvents _ v color _ _ _ _) h
  | drawFastHLine color x y len =>
    exact performVariant_next_followsEvents (fun v => hlineBody_followsEvents _ v color _ _ _) h
  | drawFastVLine color x y len =>
    exact performVariant_next_followsEvents (fun v => vlineBody_followsEvents _ v color _ _ _) h

/-- An act of the host is a run of events: a change of BUF is a run of none. -/
theorem takeAct_followsEvents {a : HostAct} {s t : State} (h : takeAct a s = .next t) : FollowsEvents s t := by
  cases a with
  | issue descriptor =>
    simp only [takeAct, issue] at h
    split at h
    · cases h
    · exact exec_followsEvents h
  | bufStore index pixel =>
    cases h
    exact followsEvents_of_unchanged rfl rfl
  | bufRelease index =>
    cases h
    exact followsEvents_of_unchanged rfl rfl

/-- A step is a run of events: taking an act off the host's list, or idling, is a run of none. -/
theorem step_followsEvents {s t : State} (h : step s = .next t) : FollowsEvents s t := by
  unfold step at h
  split at h
  · cases h
    exact followsEvents_refl _
  · next a rest _ =>
    have hpop : FollowsEvents s { s with pending := rest } := followsEvents_of_unchanged rfl rfl
    exact hpop.trans (takeAct_followsEvents h)

/-- Settles O48: a step is a run of events, and a run of events keeps the agreement. -/
theorem everyStepKeepsTraceAndLatchesAgreeing : Obligations.EveryStepKeepsTraceAndLatchesAgreeing := by
  unfold Obligations.EveryStepKeepsTraceAndLatchesAgreeing
  intro s t hagrees hstep
  exact (step_followsEvents hstep).traceAgrees hagrees

/-- Settles O40: the case analysis over the operations is `exec_followsEvents`. -/
theorem everyLatchChangeIsAnEvent : Obligations.EveryLatchChangeIsAnEvent := by
  unfold Obligations.EveryLatchChangeIsAnEvent
  intro i s t hexec
  exact exec_followsEvents hexec

end Sys2Proof.Machine
end

section
/-! PROOF. What operations leave of the state between two of them (spec/10_state.md R20, R24, R26, R32, R33): three
relations, each closed under composition, that every body but those of RESET and SPAWN satisfies; one inversion
lemma for each admission class of R161 says which; the statements about operations, steps and runs follow. -/

namespace Sys2Proof.Machine

/-! ### The relations -/

/-- What every operation on the bus but RESET keeps (R20, R33): it writes neither PHASE, KIND, RST, BUF nor the
host's list, a line that holds a value goes on holding one, and a strobe found idle is left idle. -/
structure KeepsBus (s t : State) : Prop where
  phase : t.phase = s.phase
  kind : t.kind = s.kind
  rst : t.rst = s.rst
  buf : t.buf = s.buf
  pending : t.pending = s.pending
  dirHeld : s.dir ≠ none → t.dir ≠ none
  csHeld : s.cs ≠ none → t.cs ≠ none
  cdHeld : s.cd ≠ none → t.cd ≠ none
  wrIdle : s.wr = some 1 → t.wr = some 1
  rdIdle : s.rd = some 1 → t.rd = some 1

/-- The same, and the direction is Write where it was (R24). -/
structure KeepsWrite (s t : State) : Prop extends KeepsBus s t where
  dirWrite : s.dir = some .write → t.dir = some .write

/-- The same, and no frame is left open where none was (R32). -/
structure WholeFrames (s t : State) : Prop extends KeepsWrite s t where
  csIdle : s.cs = some 1 → t.cs = some 1

theorem KeepsBus.trans {s t u : State} (hst : KeepsBus s t) (htu : KeepsBus t u) : KeepsBus s u where
  phase := htu.phase.trans hst.phase
  kind := htu.kind.trans hst.kind
  rst := htu.rst.trans hst.rst
  buf := htu.buf.trans hst.buf
  pending := htu.pending.trans hst.pending
  dirHeld := htu.dirHeld ∘ hst.dirHeld
  csHeld := htu.csHeld ∘ hst.csHeld
  cdHeld := htu.cdHeld ∘ hst.cdHeld
  wrIdle := htu.wrIdle ∘ hst.wrIdle
  rdIdle := htu.rdIdle ∘ hst.rdIdle

theorem KeepsWrite.trans {s t u : State} (hst : KeepsWrite s t) (htu : KeepsWrite t u) : KeepsWrite s u where
  toKeepsBus := hst.toKeepsBus.trans htu.toKeepsBus
  dirWrite := htu.dirWrite ∘ hst.dirWrite

theorem WholeFrames.trans {s t u : State} (hst : WholeFrames s t) (htu : WholeFrames t u) : WholeFrames s u where
  toKeepsWrite := hst.toKeepsWrite.trans htu.toKeepsWrite
  csIdle := htu.csIdle ∘ hst.csIdle

/-- Nothing but the trace and the result word differs. -/
theorem wholeFrames_of_trace_result (s : State) (trace : List Event) (result : Option Word) :
    WholeFrames s { s with trace := trace, result := result } :=
  ⟨⟨⟨rfl, rfl, rfl, rfl, rfl, id, id, id, id, id⟩, id⟩, id⟩

theorem wholeFrames_refl (s : State) : WholeFrames s s := wholeFrames_of_trace_result s s.trace s.result

theorem clearResult_wholeFrames (s : State) : WholeFrames s (clearResult s) :=
  wholeFrames_of_trace_result s s.trace none

theorem delay_wholeFrames (k : DelayKind) (s : State) : WholeFrames s (delay k s) :=
  wholeFrames_of_trace_result s _ s.result

theorem returns_wholeFrames (v : Word) (s : State) : WholeFrames s (returns v s) :=
  wholeFrames_of_trace_result s s.trace (some v)

theorem WholeFrames.busAtRest {s t : State} (h : WholeFrames s t) (hs : busAtRest s) : busAtRest t := by
  obtain ⟨hcs, hwr, hrd, hdir⟩ := hs
  exact ⟨h.csIdle hcs, h.wrIdle hwr, h.rdIdle hrd, h.dirWrite hdir⟩

/-! ### Lines and strobes -/

theorem setDir_keepsBus (d : Dir) (s : State) : KeepsBus s (setDir d s) := by
  constructor <;> simp

theorem setDirWrite_keepsWrite (s : State) : KeepsWrite s (setDir .write s) :=
  ⟨setDir_keepsBus .write s, fun _ => rfl⟩

theorem driveCs_keepsWrite (b : Level) (s : State) : KeepsWrite s (driveCs b s) where
  toKeepsBus := by constructor <;> simp
  dirWrite := id

theorem driveCd_keepsWrite (b : Level) (s : State) : KeepsWrite s (driveCd b s) where
  toKeepsBus := by constructor <;> simp
  dirWrite := id

theorem strobeWrite_keepsWrite (s : State) : KeepsWrite s (strobeWrite s) := by
  rw [strobeWrite_eq]
  exact ⟨by constructor <;> simp, id⟩

theorem sendByte_keepsWrite (v : Byte) (s : State) : KeepsWrite s (sendByte v s) := by
  rw [sendByte_eq]
  exact ⟨by constructor <;> simp, id⟩

theorem readByteBody_keepsWrite (cfg : Config) (s : State) : KeepsWrite s (readByteBody cfg s) := by
  have hrecv : KeepsWrite s (recvByte cfg s).2 := by
    rw [recvByte_eq]
    exact ⟨by constructor <;> simp, id⟩
  exact hrecv.trans (returns_wholeFrames _ _).toKeepsWrite

/-! ### Frames (spec/30_encoding.md R60 to R63) -/

/-- A frame that the block writes ends with chip-select idle, whatever it sent. -/
theorem KeepsWrite.closed {s t : State} (h : KeepsWrite s t) : WholeFrames s (driveCs csIdle t) :=
  ⟨h.trans (driveCs_keepsWrite csIdle t), fun _ => rfl⟩

theorem sendPixel_keepsWrite (p : Pixel) (s : State) : KeepsWrite s (sendPixel p s) :=
  (sendByte_keepsWrite _ s).trans (sendByte_keepsWrite _ _)

theorem strobePixel_keepsWrite (s : State) : KeepsWrite s (strobePixel s) :=
  (strobeWrite_keepsWrite s).trans (strobeWrite_keepsWrite _)

/-- A fold keeps what each of its steps keeps. -/
theorem foldl_keepsWrite {α : Type} {f : State → α → State} (hf : ∀ s a, KeepsWrite s (f s a)) (l : List α)
    (s : State) : KeepsWrite s (l.foldl f s) :=
  List.foldlRecOn l f (motive := KeepsWrite s) (wholeFrames_refl s).toKeepsWrite
    fun t ht a _ => ht.trans (hf t a)

theorem repeatTimes_keepsWrite {f : State → State} (hf : ∀ s, KeepsWrite s (f s)) (n : Nat) (s : State) :
    KeepsWrite s (repeatTimes n f s) := by
  induction n generalizing s with
  | zero => exact (wholeFrames_refl s).toKeepsWrite
  | succ n ih => exact (hf s).trans (ih (f s))

theorem commandBody_keepsWrite (cmd : Half) (s : State) : KeepsWrite s (commandBody cmd s) :=
  (driveCs_keepsWrite csActive s).trans ((driveCd_keepsWrite cdCommand _).trans (sendPixel_keepsWrite cmd _))

theorem writeRegBody_wholeFrames (addr : Half) (data : List Byte) (s : State) :
    WholeFrames s (writeRegBody addr data s) := by
  have hopen := (commandBody_keepsWrite addr s).trans (driveCd_keepsWrite cdData _)
  exact (hopen.trans (foldl_keepsWrite (fun u b => sendByte_keepsWrite b u) data _)).closed

theorem writePairBody_wholeFrames (addrHigh addrLow data : Half) (s : State) :
    WholeFrames s (writePairBody addrHigh addrLow data s) :=
  (writeRegBody_wholeFrames addrHigh _ s).trans (writeRegBody_wholeFrames addrLow _ _)

/-- A read frame turns the bus round and back (R104). -/
theorem readRegBody_wholeFrames (cfg : Config) (addr : Half) {n : Nat} (hn : 0 < n) (s : State) :
    WholeFrames s (readRegBody cfg addr n s).2 := by
  obtain ⟨seen, -, hread⟩ := readRegBody_eq cfg addr n s hn
  rw [hread]
  exact ⟨⟨by constructor <;> simp, fun _ => rfl⟩, fun _ => rfl⟩

theorem readReg16Body_wholeFrames (cfg : Config) (addr : Half) (s : State) :
    WholeFrames s (readReg16Body cfg addr s).2 :=
  readRegBody_wholeFrames cfg addr (by decide) s

theorem readReg32Body_wholeFrames (cfg : Config) (addr : Half) (s : State) :
    WholeFrames s (readReg32Body cfg addr s).2 :=
  readRegBody_wholeFrames cfg addr (by decide) s

theorem readReg16Returning_wholeFrames (cfg : Config) (addr : Half) (s : State) :
    WholeFrames s (readReg16Returning cfg addr s) :=
  (readReg16Body_wholeFrames cfg addr s).trans (returns_wholeFrames _ _)

theorem readReg32Returning_wholeFrames (cfg : Config) (addr : Half) (s : State) :
    WholeFrames s (readReg32Returning cfg addr s) :=
  (readReg32Body_wholeFrames cfg addr s).trans (returns_wholeFrames _ _)

/-! ### Detection (spec/42_detector.md R113 to R118) -/

theorem readExtId_wholeFrames (cfg : Config) (addr : Half) (s : State) :
    WholeFrames s (readExtId cfg addr s).2 := by
  unfold readExtId
  split
  · exact readReg16Body_wholeFrames cfg addr s
  · exact readReg32Body_wholeFrames cfg addr s

theorem detectStep1_wholeFrames (cfg : Config) (s : State) : WholeFrames s (detectStep1 cfg s).2.2 :=
  (readExtId_wholeFrames cfg _ s).trans
    ((readExtId_wholeFrames cfg _ _).trans (readReg32Body_wholeFrames cfg _ _))

theorem setcBody_wholeFrames (cfg : Config) (s : State) : WholeFrames s (setcBody cfg s) := by
  unfold setcBody
  split <;> exact writeRegBody_wholeFrames _ _ s

theorem detectStep3_wholeFrames (cfg : Config) (s : State) : WholeFrames s (detectStep3 cfg s).2 :=
  (setcBody_wholeFrames cfg s).trans
    ((delay_wholeFrames .setc _).trans (readReg32Body_wholeFrames cfg _ _))

theorem detectSteps45_wholeFrames (cfg : Config) (s : State) : WholeFrames s (detectSteps45 cfg s).2 := by
  have hread := readReg32Body_wholeFrames cfg 0x00D3#16 s
  simp only [detectSteps45]
  split
  · exact hread
  · exact hread.trans (readReg16Body_wholeFrames cfg _ _)

theorem readIdBody_wholeFrames (cfg : Config) (s : State) : WholeFrames s (readIdBody cfg s).2 := by
  have hone := detectStep1_wholeFrames cfg s
  have hthree := hone.trans (detectStep3_wholeFrames cfg _)
  simp only [readIdBody]
  split
  · exact hone
  · split
    · split
      · exact hthree
      · exact hthree.trans (detectSteps45_wholeFrames cfg _)
    · exact hone.trans (detectSteps45_wholeFrames cfg _)

theorem readIdReturning_wholeFrames (cfg : Config) (s : State) : WholeFrames s (readIdReturning cfg s) :=
  (readIdBody_wholeFrames cfg s).trans (returns_wholeFrames _ _)

/-! ### Sequences and drawing (spec/42_detector.md R122, spec/43_blit.md) -/

theorem playOp_wholeFrames (op : RegOp) (s : State) : WholeFrames s (playOp op s) := by
  cases op with
  | w8 | w16 | w24 | w32 => exact writeRegBody_wholeFrames _ _ s
  | wp => exact writePairBody_wholeFrames _ _ _ s
  | wait ms => exact delay_wholeFrames (.init ms) s

theorem playOps_wholeFrames (ops : List RegOp) (s : State) : WholeFrames s (playOps ops s) :=
  List.foldlRecOn ops _ (motive := WholeFrames s) (wholeFrames_refl s)
    fun t ht op _ => ht.trans (playOp_wholeFrames op t)

theorem setWindow_wholeFrames (v : VariantRecord) (x1 y1 x2 y2 : Int) (s : State) :
    WholeFrames s (setWindow v x1 y1 x2 y2 s) :=
  playOps_wholeFrames _ s

theorem floodFrame_wholeFrames {rest : State → State} (hrest : ∀ u, KeepsWrite u (rest u)) (gw : Half)
    (color : Pixel) (s : State) : WholeFrames s (floodFrame gw color rest s) := by
  have hopen := (commandBody_keepsWrite gw s).trans (driveCd_keepsWrite cdData _)
  exact ((hopen.trans (sendPixel_keepsWrite color _)).trans (hrest _)).closed

theorem floodBody_wholeFrames (cfg : Config) (v : VariantRecord) (color : Pixel) (count : Nat) (s : State) :
    WholeFrames s (floodBody cfg v color count s) := by
  unfold floodBody
  split
  · exact floodFrame_wholeFrames (repeatTimes_keepsWrite strobePixel_keepsWrite _) _ color s
  · exact floodFrame_wholeFrames (repeatTimes_keepsWrite (sendPixel_keepsWrite color) _) _ color s

theorem pushBody_wholeFrames (v : VariantRecord) (first : Bool) (ps : List Pixel) (s : State) :
    WholeFrames s (pushBody v first ps s) := by
  have hopen : KeepsWrite s (if first then commandBody v.gramWrite s else driveCs csActive s) := by
    split
    · exact commandBody_keepsWrite _ s
    · exact driveCs_keepsWrite _ s
  have hdata := hopen.trans (driveCd_keepsWrite cdData _)
  exact (hdata.trans (foldl_keepsWrite (fun u p => sendPixel_keepsWrite p u) ps _)).closed

/-- The two parts of every pixel, fill and line. -/
theorem setWindow_floodBody_wholeFrames (cfg : Config) (v : VariantRecord) (x1 y1 x2 y2 : Int) (color : Pixel)
    (count : Nat) (s : State) : WholeFrames s (floodBody cfg v color count (setWindow v x1 y1 x2 y2 s)) :=
  (setWindow_wholeFrames v x1 y1 x2 y2 s).trans (floodBody_wholeFrames cfg v color count _)

theorem pixelBody_wholeFrames (cfg : Config) (v : VariantRecord) (color : Pixel) (x y : Int) (s : State) :
    WholeFrames s (pixelBody cfg v color x y s) := by
  unfold pixelBody
  split
  · exact setWindow_floodBody_wholeFrames cfg v x y x y color 1 s
  · exact wholeFrames_refl s

theorem bitmapRow_wholeFrames (cfg : Config) (v : VariantRecord) (x y : Int) (ps : List Pixel) (s : State) :
    WholeFrames s (bitmapRow cfg v x y ps s) := by
  induction ps generalizing x s with
  | nil => exact wholeFrames_refl s
  | cons p ps ih => exact (pixelBody_wholeFrames cfg v p x y s).trans (ih _ _)

theorem bitmapRows_wholeFrames (cfg : Config) (v : VariantRecord) (x : Int) (w h : Nat) (y : Int)
    (ps : List Pixel) (s : State) : WholeFrames s (bitmapRows cfg v x w h y ps s) := by
  induction h generalizing y ps s with
  | zero => exact wholeFrames_refl s
  | succ h ih => exact (bitmapRow_wholeFrames cfg v x y _ s).trans (ih _ _ _)

theorem bitmapBody_wholeFrames (cfg : Config) (v : VariantRecord) (x y w h : Int) (ps : List Pixel) (s : State) :
    WholeFrames s (bitmapBody cfg v x y w h ps s) := by
  unfold bitmapBody
  split
  · exact (setWindow_wholeFrames v _ _ _ _ s).trans (pushBody_wholeFrames v true ps _)
  · exact bitmapRows_wholeFrames cfg v x _ _ y ps s

theorem fillBody_wholeFrames (cfg : Config) (v : VariantRecord) (color : Pixel) (x y w h : Int) (s : State) :
    WholeFrames s (fillBody cfg v color x y w h s) := by
  unfold fillBody
  split
  · exact setWindow_floodBody_wholeFrames cfg v _ _ _ _ color _ s
  · exact wholeFrames_refl s

theorem hlineBody_wholeFrames (cfg : Config) (v : VariantRecord) (color : Pixel) (x y len : Int) (s : State) :
    WholeFrames s (hlineBody cfg v color x y len s) := by
  unfold hlineBody
  split
  · exact setWindow_floodBody_wholeFrames cfg v _ _ _ _ color _ s
  · exact wholeFrames_refl s

theorem vlineBody_wholeFrames (cfg : Config) (v : VariantRecord) (color : Pixel) (x y len : Int) (s : State) :
    WholeFrames s (vlineBody cfg v color x y len s) := by
  unfold vlineBody
  split
  · exact setWindow_floodBody_wholeFrames cfg v _ _ _ _ color _ s
  · exact wholeFrames_refl s

/-! ### RESET and SPAWN -/

theorem idlePins_eq (s : State) :
    idlePins s =
      { s with dir := some .write, cs := some 1, cd := some 1, wr := some 1, rd := some 1,
               trace := s.trace ++ [.cfg, .cs 1, .cd 1, .wr 1, .rd 1, .dir .write] } := by
  simp [idlePins, driveCs, driveCd, driveWr, driveRd, setDir, emit, csIdle, strobeIdle]

theorem pulseReset_eq (s : State) :
    pulseReset s =
      { s with rst := some 1,
               trace := s.trace ++ [.rst 1, .rst 0, .delay .resetLow, .rst 1, .delay .resetHigh] } := by
  simp [pulseReset, driveRst, delay, emit]

/-- RESET writes PHASE, the lines and, where it is wired, RST (R111). -/
theorem resetBody_eq (cfg : Config) (s : State) :
    ∃ trace, resetBody cfg s =
      { s with phase := .configured, dir := some .write, cs := some 1, cd := some 1, wr := some 1, rd := some 1,
               rst := if cfg.hasResetPin then some 1 else s.rst, trace := trace } := by
  unfold resetBody
  split
  · exact ⟨_, by rw [pulseReset_eq, idlePins_eq]⟩
  · exact ⟨_, by rw [idlePins_eq]⟩

/-- SPAWN writes KIND and the result word only (R110, R120). -/
theorem spawnBody_eq (cfg : Config) (id : Half) (s : State) :
    ∃ kind word, spawnBody cfg id s = { s with kind := kind, result := some word } := by
  unfold spawnBody
  split <;> exact ⟨_, _, rfl⟩

/-! ### What an operation of each admission class can do -/

theorem admissionClass_eq_always_iff (i : Instr) : admissionClass i = .always ↔ i = .reset := by
  cases i <;> simp [admissionClass]

theorem admissionClass_eq_spawn_iff (i : Instr) : admissionClass i = .spawn ↔ ∃ id, i = .spawn id := by
  cases i <;> simp [admissionClass]

theorem perform_unconfigured {rest : List Requirement} {body : State → State} {s : State}
    (hphase : s.phase = .unconfigured) :
    perform (needConfigured :: rest) body s = .refused .notConfigured := by
  simp [perform, admitting_cons, needConfigured, hphase]

theorem performVariant_unconfigured {cfg : Config} {k : VariantRecord → State → Result} {s : State}
    (hphase : s.phase = .unconfigured) : performVariant cfg k s = .refused .notConfigured := by
  simp [performVariant, admitting_cons, needConfigured, hphase]

/-- Every operation but RESET asks first that PHASE is Configured (R25, R161). -/
theorem exec_unconfigured {i : Instr} {s : State} (hphase : s.phase = .unconfigured) (hi : i ≠ .reset) :
    exec i s = .refused .notConfigured := by
  cases i with
  | reset => exact absurd rfl hi
  | csAssert | csIdle | cdCommand | cdData | wrStrobe | writeByte | readByte | setDirWrite | setDirRead
  | writeCommand | writeReg8 | writeReg16 | writeReg24 | writeReg32 | writeRegPair | readReg16 | readReg32
  | readId | spawn => exact perform_unconfigured hphase
  | beginInit | setAddrWindow | flood | pushColors | drawBitmap | drawPixel | fillRect | drawFastHLine
  | drawFastVLine =>
    simp only [exec, execBegin, beginOn, execSetAddrWindow, setAddrWindowOn, execFlood, floodOn, execPushColors,
      pushColorsOn, execDrawBitmap, drawBitmapOn, execDrawPixel, drawPixelOn, execFillRect, fillRectOn,
      execDrawFastHLine, hlineOn, execDrawFastVLine, vlineOn, performVariant_unconfigured hphase]

theorem configured_of_exec_next {i : Instr} {s t : State} (hi : i ≠ .reset) (h : exec i s = .next t) :
    s.phase = .configured := by
  cases hphase : s.phase with
  | configured => rfl
  | unconfigured => rw [exec_unconfigured hphase hi] at h; cases h

theorem exec_reset_eq (s : State) : exec .reset s = .next (resetBody Config.board (clearResult s)) := rfl

theorem exec_reset_next {s t : State} (h : exec .reset s = .next t) :
    ∃ trace, t =
      { s with phase := .configured, dir := some .write, cs := some 1, cd := some 1, wr := some 1, rd := some 1,
               rst := if Config.board.hasResetPin then some 1 else s.rst, trace := trace, result := none } := by
  rw [exec_reset_eq] at h
  cases h
  exact resetBody_eq Config.board (clearResult s)

/-- SPAWN completes only while KIND is none, and writes KIND and the result word only. -/
theorem exec_spawn_next {id : Half} {s t : State} (h : exec (.spawn id) s = .next t) :
    s.kind = .none ∧ ∃ kind word, t = { s with kind := kind, result := some word } := by
  obtain ⟨hmet, rfl⟩ := perform_next h
  have hkind : s.kind = .none := by simpa [needUnspawned] using hmet needUnspawned (by simp)
  exact ⟨hkind, spawnBody_eq _ id (clearResult s)⟩

theorem perform_keepsBus {reqs : List Requirement} {body : State → State} {s t : State}
    (hbody : ∀ u, KeepsBus u (body u)) (h : perform reqs body s = .next t) : KeepsBus s t := by
  obtain ⟨-, rfl⟩ := perform_next h
  exact (clearResult_wholeFrames s).toKeepsBus.trans (hbody _)

theorem perform_keepsWrite {reqs : List Requirement} {body : State → State} {s t : State}
    (hbody : ∀ u, KeepsWrite u (body u)) (h : perform reqs body s = .next t) : KeepsWrite s t := by
  obtain ⟨-, rfl⟩ := perform_next h
  exact (clearResult_wholeFrames s).toKeepsWrite.trans (hbody _)

/-- A BusSignal operation other than SET_DIR_READ keeps Write. -/
theorem exec_busSignal_keepsWrite {i : Instr} {s t : State} (hclass : admissionClass i = .busSignal)
    (hi : i ≠ .setDirRead) (h : exec i s = .next t) : KeepsWrite s t := by
  cases i with
  | csAssert | csIdle => exact perform_keepsWrite (driveCs_keepsWrite _) h
  | cdCommand | cdData => exact perform_keepsWrite (driveCd_keepsWrite _) h
  | wrStrobe => exact perform_keepsWrite strobeWrite_keepsWrite h
  | writeByte v => exact perform_keepsWrite (sendByte_keepsWrite v) h
  | readByte => exact perform_keepsWrite (readByteBody_keepsWrite _) h
  | setDirWrite => exact perform_keepsWrite setDirWrite_keepsWrite h
  | setDirRead => exact absurd rfl hi
  | _ => cases hclass

theorem perform_register_wholeFrames {body : State → State} {s t : State} (hbody : ∀ u, WholeFrames u (body u))
    (h : perform registerNeeds body s = .next t) : registerAdmitted s ∧ WholeFrames s t := by
  obtain ⟨hadmitted, rfl⟩ := perform_register_next h
  exact ⟨hadmitted, (clearResult_wholeFrames s).trans (hbody _)⟩

/-- A register operation, or READ_ID, other than WRITE_COMMAND is admitted at rest and sends whole frames. -/
theorem exec_register_wholeFrames {i : Instr} {s t : State} (hclass : admissionClass i = .register)
    (hi : ∀ cmd, i ≠ .writeCommand cmd) (h : exec i s = .next t) : registerAdmitted s ∧ WholeFrames s t := by
  cases i with
  | writeCommand cmd => exact absurd rfl (hi cmd)
  | writeReg8 | writeReg16 | writeReg24 | writeReg32 =>
    exact perform_register_wholeFrames (writeRegBody_wholeFrames _ _) h
  | writeRegPair => exact perform_register_wholeFrames (writePairBody_wholeFrames _ _ _) h
  | readReg16 addr => exact perform_register_wholeFrames (readReg16Returning_wholeFrames _ addr) h
  | readReg32 addr => exact perform_register_wholeFrames (readReg32Returning_wholeFrames _ addr) h
  | readId => exact perform_register_wholeFrames (readIdReturning_wholeFrames _) h
  | _ => cases hclass

/-- Every register operation is admitted at rest and keeps Write, also WRITE_COMMAND, which leaves its frame open. -/
theorem exec_register_keepsWrite {i : Instr} {s t : State} (hclass : admissionClass i = .register)
    (h : exec i s = .next t) : registerAdmitted s ∧ KeepsWrite s t := by
  by_cases hi : ∃ cmd, i = .writeCommand cmd
  · obtain ⟨cmd, rfl⟩ := hi
    obtain ⟨hadmitted, -⟩ := perform_register_next h
    exact ⟨hadmitted, perform_keepsWrite (commandBody_keepsWrite cmd) h⟩
  · obtain ⟨hadmitted, hframes⟩ := exec_register_wholeFrames hclass (not_exists.1 hi) h
    exact ⟨hadmitted, hframes.toKeepsWrite⟩

theorem performVariant_wholeFrames {cfg : Config} {k : VariantRecord → State → Result} {s t : State}
    (hk : ∀ v u w, k v u = .next w → WholeFrames u w) (h : performVariant cfg k s = .next t) :
    (∃ κ, variantAdmitted κ s) ∧ WholeFrames s t := by
  obtain ⟨κ, hadmitted, hbody⟩ := performVariant_next_admitted h
  exact ⟨⟨κ, hadmitted⟩, (clearResult_wholeFrames s).trans (hk _ _ _ hbody)⟩

/-- A variant operation that completes wherever it is admitted. -/
theorem performVariant_next_wholeFrames {cfg : Config} {body : VariantRecord → State → State} {s t : State}
    (hbody : ∀ v u, WholeFrames u (body v u))
    (h : performVariant cfg (fun v u => .next (body v u)) s = .next t) :
    (∃ κ, variantAdmitted κ s) ∧ WholeFrames s t := by
  refine performVariant_wholeFrames (fun v u w hw => ?_) h
  cases hw
  exact hbody v u

theorem floodOn_wholeFrames {cfg : Config} {color : Pixel} {count : Word} {s t : State}
    (h : floodOn cfg color count s = .next t) : (∃ κ, variantAdmitted κ s) ∧ WholeFrames s t := by
  refine performVariant_wholeFrames (fun v u w hflood => ?_) h
  split at hflood
  · cases hflood
  · cases hflood
    exact floodBody_wholeFrames cfg v color _ u

theorem pushColorsOn_wholeFrames {cfg : Config} {first : Bool} {count base : Word} {s t : State}
    (h : pushColorsOn cfg first count base s = .next t) : (∃ κ, variantAdmitted κ s) ∧ WholeFrames s t := by
  refine performVariant_wholeFrames (fun v u w hcells => ?_) h
  obtain ⟨-, ps, -, hpush⟩ := withCells_next hcells
  cases hpush
  exact pushBody_wholeFrames v first ps u

theorem drawBitmapOn_wholeFrames {cfg : Config} {x y w h : Half} {base : Word} {s t : State}
    (hexec : drawBitmapOn cfg x y w h base s = .next t) : (∃ κ, variantAdmitted κ s) ∧ WholeFrames s t := by
  refine performVariant_wholeFrames (fun v u u' hbitmap => ?_) hexec
  split at hbitmap
  · cases hbitmap
    exact wholeFrames_refl u
  · obtain ⟨-, ps, -, hdraw⟩ := withCells_next hbitmap
    cases hdraw
    exact bitmapBody_wholeFrames cfg v _ _ _ _ ps u

/-- BEGIN and the BlitEngine operations are admitted at rest and send whole frames. -/
theorem exec_variant_wholeFrames {i : Instr} {s t : State} (hclass : admissionClass i = .variant)
    (h : exec i s = .next t) : (∃ κ, variantAdmitted κ s) ∧ WholeFrames s t := by
  cases i with
  | beginInit => exact performVariant_next_wholeFrames (fun v => playOps_wholeFrames v.initSeq) h
  | setAddrWindow => exact performVariant_next_wholeFrames (fun _ => playOps_wholeFrames _) h
  | flood => exact floodOn_wholeFrames h
  | pushColors => exact pushColorsOn_wholeFrames h
  | drawBitmap => exact drawBitmapOn_wholeFrames h
  | drawPixel color => exact performVariant_next_wholeFrames (fun v => pixelBody_wholeFrames _ v color _ _) h
  | fillRect color => exact performVariant_next_wholeFrames (fun v => fillBody_wholeFrames _ v color _ _ _ _) h
  | drawFastHLine color => exact performVariant_next_wholeFrames (fun v => hlineBody_wholeFrames _ v color _ _ _) h
  | drawFastVLine color => exact performVariant_next_wholeFrames (fun v => vlineBody_wholeFrames _ v color _ _ _) h
  | _ => cases hclass

/-- Every operation but RESET and SPAWN keeps what `KeepsBus` says. -/
theorem exec_keepsBus {i : Instr} {s t : State} (hreset : i ≠ .reset) (hspawn : ∀ id, i ≠ .spawn id)
    (h : exec i s = .next t) : KeepsBus s t := by
  cases hclass : admissionClass i with
  | always => exact absurd ((admissionClass_eq_always_iff i).1 hclass) hreset
  | spawn =>
    obtain ⟨id, hi⟩ := (admissionClass_eq_spawn_iff i).1 hclass
    exact absurd hi (hspawn id)
  | busSignal =>
    by_cases hi : i = .setDirRead
    · subst hi
      exact perform_keepsBus (setDir_keepsBus .read) h
    · exact (exec_busSignal_keepsWrite hclass hi h).toKeepsBus
  | register => exact (exec_register_keepsWrite hclass h).2.toKeepsBus
  | variant => exact (exec_variant_wholeFrames hclass h).2.toKeepsBus

/-- Only SET_DIR_READ turns the bus away from Write. -/
theorem exec_dirWrite {i : Instr} {s t : State} (hi : i ≠ .setDirRead) (h : exec i s = .next t)
    (hdir : s.dir = some .write) : t.dir = some .write := by
  cases hclass : admissionClass i with
  | always =>
    obtain rfl := (admissionClass_eq_always_iff i).1 hclass
    obtain ⟨trace, rfl⟩ := exec_reset_next h
    rfl
  | spawn =>
    obtain ⟨id, rfl⟩ := (admissionClass_eq_spawn_iff i).1 hclass
    obtain ⟨-, kind, word, rfl⟩ := exec_spawn_next h
    exact hdir
  | busSignal => exact (exec_busSignal_keepsWrite hclass hi h).dirWrite hdir
  | register => exact (exec_register_keepsWrite hclass h).2.dirWrite hdir
  | variant => exact (exec_variant_wholeFrames hclass h).2.dirWrite hdir

/-- Once KIND is selected no operation changes it: SPAWN asks that it is none. -/
theorem exec_kind_of_selected {i : Instr} {s t : State} (hkind : s.kind ≠ .none) (h : exec i s = .next t) :
    t.kind = s.kind := by
  by_cases hreset : i = .reset
  · subst hreset
    obtain ⟨trace, rfl⟩ := exec_reset_next h
    rfl
  · by_cases hspawn : ∃ id, i = .spawn id
    · obtain ⟨id, rfl⟩ := hspawn
      exact absurd (exec_spawn_next h).1 hkind
    · exact (exec_keepsBus hreset (not_exists.1 hspawn) h).kind

/-! ### The invariant -/

/-- A configured state meets the invariant by BUF and the pins alone. -/
theorem inv_of_configured {s : State} (hphase : s.phase = .configured) (hbuf : Memory.wf s.buf = true)
    (hpins : pinsSet Config.board s) : Inv s :=
  ⟨hbuf, fun hunset => absurd (hphase.symm.trans hunset) nofun, fun _ => hpins⟩

/-- RST is none before the first RESET, and after it where no reset line is wired. -/
theorem rst_of_inv {s : State} (hinv : Inv s) (hpin : Config.board.hasResetPin = false) : s.rst = none := by
  obtain ⟨-, hunset, hset⟩ := hinv
  cases hphase : s.phase with
  | unconfigured =>
    obtain ⟨-, -, -, -, -, -, hrst, -⟩ := hunset hphase
    exact hrst
  | configured =>
    obtain ⟨-, -, -, -, -, hrst⟩ := hset hphase
    simpa [hpin] using hrst

theorem exec_reset_inv {s t : State} (hinv : Inv s) (h : exec .reset s = .next t) : Inv t := by
  obtain ⟨trace, rfl⟩ := exec_reset_next h
  have hrst : (if Config.board.hasResetPin then some 1 else s.rst) =
      if Config.board.hasResetPin then some 1 else none := by
    cases hpin : Config.board.hasResetPin with
    | true => rfl
    | false => exact rst_of_inv hinv hpin
  exact inv_of_configured rfl hinv.1 ⟨nofun, nofun, nofun, rfl, rfl, hrst⟩

theorem KeepsBus.inv {s t : State} (h : KeepsBus s t) (hphase : s.phase = .configured) (hinv : Inv s) :
    Inv t := by
  obtain ⟨hbuf, -, hset⟩ := hinv
  obtain ⟨hdir, hcs, hcd, hwr, hrd, hrst⟩ := hset hphase
  exact inv_of_configured (h.phase.trans hphase) (h.buf ▸ hbuf)
    ⟨h.dirHeld hdir, h.csHeld hcs, h.cdHeld hcd, h.wrIdle hwr, h.rdIdle hrd, h.rst.trans hrst⟩

/-- SPAWN runs only in a configured state, where the invariant does not speak of KIND. -/
theorem exec_inv {i : Instr} {s t : State} (hinv : Inv s) (h : exec i s = .next t) : Inv t := by
  by_cases hreset : i = .reset
  · subst hreset
    exact exec_reset_inv hinv h
  · have hphase := configured_of_exec_next hreset h
    by_cases hspawn : ∃ id, i = .spawn id
    · obtain ⟨id, rfl⟩ := hspawn
      obtain ⟨-, kind, word, rfl⟩ := exec_spawn_next h
      exact inv_of_configured hphase hinv.1 (hinv.2.2 hphase)
    · exact (exec_keepsBus hreset (not_exists.1 hspawn) h).inv hphase hinv

/-! ### Acts, steps and runs -/

/-- What an act that completes does: it runs an operation, or changes one cell of BUF. -/
theorem takeAct_next {a : HostAct} {s t : State} (h : takeAct a s = .next t) :
    (∃ i, exec i s = .next t) ∨
    (∃ (index : Word) (pixel : Pixel), t = { s with buf := Memory.write s.buf index.toNat pixel }) ∨
    ∃ index : Word, t = { s with buf := Memory.erase s.buf index.toNat } := by
  cases a with
  | issue descriptor =>
    simp only [takeAct, issue] at h
    split at h
    · cases h
    · next i _ => exact .inl ⟨i, h⟩
  | bufStore index pixel => cases h; exact .inr (.inl ⟨index, pixel, rfl⟩)
  | bufRelease index => cases h; exact .inr (.inr ⟨index, rfl⟩)

/-- What a step that completes does: it idles, or takes the first act off the host's list. -/
theorem step_next {s t : State} (h : step s = .next t) :
    t = s ∨ ∃ a rest, takeAct a { s with pending := rest } = .next t := by
  unfold step at h
  split at h
  · cases h
    exact .inl rfl
  · next a rest _ => exact .inr ⟨a, rest, h⟩

/-- An act of a run completes, or leaves the run's state as it was. -/
theorem runAct_state (r : Run) (a : HostAct) :
    takeAct a r.state = .next (runAct r a).state ∨ (runAct r a).state = r.state := by
  unfold runAct
  split
  · next t hact => exact .inl hact
  · exact .inr rfl
  · next f _ => exact nomatch f

theorem takeAct_inv {a : HostAct} {s t : State} (hinv : Inv s) (h : takeAct a s = .next t) : Inv t := by
  obtain ⟨i, hexec⟩ | ⟨index, pixel, rfl⟩ | ⟨index, rfl⟩ := takeAct_next h
  · exact exec_inv hinv hexec
  · exact ⟨wf_write hinv.1 index.isLt, hinv.2⟩
  · exact ⟨wf_erase index.toNat hinv.1, hinv.2⟩

theorem takeAct_kind_of_selected {a : HostAct} {s t : State} (hkind : s.kind ≠ .none)
    (h : takeAct a s = .next t) : t.kind = s.kind := by
  obtain ⟨i, hexec⟩ | ⟨index, pixel, rfl⟩ | ⟨index, rfl⟩ := takeAct_next h
  · exact exec_kind_of_selected hkind hexec
  · rfl
  · rfl

theorem runActs_kind_of_selected (acts : List HostAct) (r : Run) (hkind : r.state.kind ≠ .none) :
    (runActs r acts).state.kind = r.state.kind := by
  induction acts generalizing r with
  | nil => rfl
  | cons a acts ih =>
    have hact : (runAct r a).state.kind = r.state.kind := by
      obtain hnext | hsame := runAct_state r a
      · exact takeAct_kind_of_selected hkind hnext
      · rw [hsame]
    exact (ih (runAct r a) (hact ▸ hkind)).trans hact

/-! ### The statements -/

/-- Settles O47: the invariant does not read the host's list, and an act keeps it (`takeAct_inv`). -/
theorem everyStepKeepsTheInvariant : Obligations.EveryStepKeepsTheInvariant := by
  unfold Obligations.EveryStepKeepsTheInvariant
  intro s t hinv hstep
  obtain rfl | ⟨a, rest, hact⟩ := step_next hstep
  · exact hinv
  · have hpop : Inv { s with pending := rest } := hinv
    exact takeAct_inv hpop hact

/-- Settles O38. -/
theorem onlyResetIsAdmittedUnconfigured : Obligations.OnlyResetIsAdmittedUnconfigured := by
  unfold Obligations.OnlyResetIsAdmittedUnconfigured
  intro i s hphase
  refine ⟨exec_unconfigured hphase, ?_⟩
  rintro rfl
  exact ⟨_, exec_reset_eq s⟩

/-- Settles O39: RESET brings the bus to rest, SPAWN touches no pin, and all others send whole frames. -/
theorem completeOperationsKeepTheBusAtRest : Obligations.CompleteOperationsKeepTheBusAtRest := by
  unfold Obligations.CompleteOperationsKeepTheBusAtRest
  intro i s t hnotSignal hnotCommand hrest h
  cases hclass : admissionClass i with
  | always =>
    obtain rfl := (admissionClass_eq_always_iff i).1 hclass
    obtain ⟨trace, rfl⟩ := exec_reset_next h
    exact ⟨rfl, rfl, rfl, rfl⟩
  | spawn =>
    obtain ⟨id, rfl⟩ := (admissionClass_eq_spawn_iff i).1 hclass
    obtain ⟨-, kind, word, rfl⟩ := exec_spawn_next h
    exact hrest
  | busSignal => exact absurd hclass hnotSignal
  | register => exact (exec_register_wholeFrames hclass hnotCommand h).2.busAtRest hrest
  | variant => exact (exec_variant_wholeFrames hclass h).2.busAtRest hrest

/-- Settles O41: RESET and SPAWN by what their bodies write, all others by `KeepsBus`. -/
theorem onlyTheNamedWritersWriteState : Obligations.OnlyTheNamedWritersWriteState := by
  unfold Obligations.OnlyTheNamedWritersWriteState
  intro i s t h
  by_cases hreset : i = .reset
  · subst hreset
    obtain ⟨trace, rfl⟩ := exec_reset_next h
    exact ⟨fun _ => rfl, fun hne => absurd rfl hne, rfl, rfl⟩
  · by_cases hspawn : ∃ id, i = .spawn id
    · obtain ⟨id, rfl⟩ := hspawn
      obtain ⟨-, kind, word, rfl⟩ := exec_spawn_next h
      exact ⟨fun hne => absurd rfl (hne id), fun _ => ⟨rfl, rfl⟩, rfl, rfl⟩
    · have hkeeps := exec_keepsBus hreset (not_exists.1 hspawn) h
      exact ⟨fun _ => hkeeps.kind, fun _ => ⟨hkeeps.phase, hkeeps.rst⟩, hkeeps.buf, hkeeps.pending⟩

/-- Settles O42: a composite operation is admitted in Write, and all but SET_DIR_READ keep it. -/
theorem directionIsBackAtWrite : Obligations.DirectionIsBackAtWrite := by
  unfold Obligations.DirectionIsBackAtWrite
  intro i s t h
  refine ⟨fun hdir hi => exec_dirWrite hi h hdir, ?_, ?_⟩
  · rintro (hclass | hclass)
    · obtain ⟨⟨-, -, hdir⟩, hkeeps⟩ := exec_register_keepsWrite hclass h
      exact ⟨hdir, hkeeps.dirWrite hdir⟩
    · obtain ⟨⟨κ, -, -, -, hdir⟩, hframes⟩ := exec_variant_wholeFrames hclass h
      exact ⟨hdir, hframes.dirWrite hdir⟩
  · rintro rfl
    obtain ⟨trace, rfl⟩ := exec_reset_next h
    rfl

/-- Settles O52: by induction over the acts of a run. -/
theorem kindIsSelectedOnce : Obligations.KindIsSelectedOnce := by
  unfold Obligations.KindIsSelectedOnce
  refine ⟨fun s t hkind hstep => ?_, runActs_kind_of_selected⟩
  obtain rfl | ⟨a, rest, hact⟩ := step_next hstep
  · rfl
  · exact takeAct_kind_of_selected (s := { s with pending := rest }) hkind hact

/-- Settles O44: the decoder's answer is the only thing a step branches on. -/
theorem stepRunsTheDecodedOperation : Obligations.StepRunsTheDecodedOperation := by
  unfold Obligations.StepRunsTheDecodedOperation
  intro s rest
  refine ⟨fun d i hdecode => ?_, fun d e hdecode => ?_, fun _ _ => rfl, fun _ => rfl, rfl⟩
  · simp only [step, takeAct, issue, hdecode]
  · simp only [step, takeAct, issue, hdecode]

/-- Settles O45: each field of `State.reset` as it is written. -/
theorem powerOnHoldsNoValue : Obligations.PowerOnHoldsNoValue := by
  unfold Obligations.PowerOnHoldsNoValue
  exact ⟨rfl, rfl, ⟨rfl, rfl, rfl, rfl, rfl, rfl, rfl⟩, rfl, rfl⟩

/-- Settles O46: at power-on BUF and the trace are empty and PHASE is Unconfigured. -/
theorem powerOnMeetsTheInvariants : Obligations.PowerOnMeetsTheInvariants := by
  unfold Obligations.PowerOnMeetsTheInvariants
  obtain ⟨-, hkind, hpins, -, -⟩ := powerOnHoldsNoValue
  have hinv : Inv State.reset := ⟨rfl, fun _ => ⟨hkind, hpins⟩, nofun⟩
  exact ⟨hinv, rfl, rfl⟩

end Sys2Proof.Machine
end

section
/-! PROOF. What a step may put on the bus (spec/20_memory.md R52, R59, spec/40_bus_signal.md R90). Every operation only
appends events. A composite operation is admitted in Write, and its frames are quiet from there and end there; a
BusSignal strobe asks for the direction it needs; RESET drives no strobe low. -/

namespace Sys2Proof.Machine

/-! ### The trace only grows (R52) -/

theorem FollowsEvents.trace_isPrefix {s t : State} (h : FollowsEvents s t) : s.trace <+: t.trace := by
  obtain ⟨ev, htrace, -⟩ := h
  exact ⟨ev, htrace.symm⟩

theorem runAct_trace_isPrefix (r : Run) (a : HostAct) : r.state.trace <+: (runAct r a).state.trace := by
  obtain hnext | hsame := runAct_state r a
  · exact (takeAct_followsEvents hnext).trace_isPrefix
  · rw [hsame]

theorem runActs_trace_isPrefix (acts : List HostAct) (r : Run) :
    r.state.trace <+: (runActs r acts).state.trace := by
  induction acts generalizing r with
  | nil => exact ⟨[], List.append_nil _⟩
  | cons a acts ih => exact (runAct_trace_isPrefix r a).trans (ih (runAct r a))

/-! ### Quiet events, part by part of a trace -/

/-- The direction that `quietFrom` carries on is the latch DIR. -/
theorem quietFrom_cons (l : Latches) (e : Event) (ev : List Event) :
    quietFrom l.dir (e :: ev) = (eventQuiet l.dir e && quietFrom (latchStep l e).dir ev) := by
  cases e <;> rfl

theorem quietFrom_append (l : Latches) (ev₁ ev₂ : List Event) :
    quietFrom l.dir (ev₁ ++ ev₂) = (quietFrom l.dir ev₁ && quietFrom (ev₁.foldl latchStep l).dir ev₂) := by
  induction ev₁ generalizing l with
  | nil => rfl
  | cons e ev₁ ih => simp only [List.cons_append, quietFrom_cons, ih, List.foldl_cons, Bool.and_assoc]

/-- The same from power-on. -/
theorem quietFrom_replay (ev₁ ev₂ : List Event) :
    quietFrom none (ev₁ ++ ev₂) = (quietFrom none ev₁ && quietFrom (replay ev₁).dir ev₂) :=
  quietFrom_append ⟨none, none, none, none, none, none, none⟩ ev₁ ev₂

/-- Events that are quiet while the block drives the pins, and leave it driving them. -/
structure QuietInWrite (ev : List Event) : Prop where
  quiet : quietFrom (some .write) ev = true
  back : ∀ l : Latches, l.dir = some .write → (ev.foldl latchStep l).dir = some .write

theorem quietInWrite_nil : QuietInWrite [] := ⟨rfl, fun _ hdir => hdir⟩

theorem QuietInWrite.append {ev₁ ev₂ : List Event} (h₁ : QuietInWrite ev₁) (h₂ : QuietInWrite ev₂) :
    QuietInWrite (ev₁ ++ ev₂) where
  quiet := by
    have happend := quietFrom_append ⟨some .write, none, none, none, none, none, none⟩ ev₁ ev₂
    rw [h₁.back _ rfl] at happend
    exact happend.trans (by rw [h₁.quiet, h₂.quiet, Bool.and_self])
  back l hdir := by
    rw [List.foldl_append]
    exact h₂.back _ (h₁.back l hdir)

theorem quietInWrite_flatten {parts : List (List Event)} (h : ∀ ev ∈ parts, QuietInWrite ev) :
    QuietInWrite parts.flatten := by
  induction parts with
  | nil => exact quietInWrite_nil
  | cons ev parts ih =>
    obtain ⟨hev, hparts⟩ := List.forall_mem_cons.1 h
    exact hev.append (ih hparts)

theorem quietInWrite_flatMap {α : Type} {f : α → List Event} (h : ∀ a, QuietInWrite (f a)) (as : List α) :
    QuietInWrite (as.flatMap f) := by
  rw [List.flatMap_def]
  exact quietInWrite_flatten (List.forall_mem_map.2 fun a _ => h a)

/-! ### Frames (spec/30_encoding.md R60 to R63) -/

theorem quietInWrite_cs (b : Level) : QuietInWrite [.cs b] := ⟨rfl, fun _ hdir => hdir⟩

theorem quietInWrite_cd (b : Level) : QuietInWrite [.cd b] := ⟨rfl, fun _ hdir => hdir⟩

theorem quietInWrite_delay (k : DelayKind) : QuietInWrite [.delay k] := ⟨rfl, fun _ hdir => hdir⟩

theorem wsEvents_quietInWrite : QuietInWrite wsEvents := ⟨rfl, fun _ hdir => hdir⟩

theorem wbEvents_quietInWrite (v : Byte) : QuietInWrite (wbEvents v) := ⟨rfl, fun _ hdir => hdir⟩

theorem commandEvents_quietInWrite (cmd : Half) : QuietInWrite (commandEvents cmd) := ⟨rfl, fun _ hdir => hdir⟩

theorem writeFrame_quietInWrite (addr : Half) (data : List Byte) : QuietInWrite (writeFrame addr data) :=
  (((commandEvents_quietInWrite addr).append (quietInWrite_cd _)).append
    (quietInWrite_flatMap wbEvents_quietInWrite data)).append (quietInWrite_cs 1)

/-- The read strobes of a frame are quiet while the pins are inputs. -/
theorem quietFrom_read_flatMap_rbEvents (seen : List Byte) (ev : List Event) :
    quietFrom (some .read) (seen.flatMap rbEvents ++ ev) = quietFrom (some .read) ev := by
  induction seen with
  | nil => rfl
  | cons v seen ih => exact ih

/-- A read frame turns the pins round before its strobes and takes them back after (R59). -/
theorem readFrame_quietInWrite (addr : Half) (seen : List Byte) : QuietInWrite (readFrame addr seen) where
  quiet := by
    have hread := quietFrom_read_flatMap_rbEvents seen [.cs 1, .dir .write]
    simpa [readFrame, commandEvents, wbEvents, quietFrom, eventQuiet] using hread
  back l _ := by
    rw [readFrame, List.foldl_append]
    rfl

theorem pixelEvents_quietInWrite (p : Pixel) : QuietInWrite (pixelEvents p) :=
  (wbEvents_quietInWrite _).append (wbEvents_quietInWrite _)

theorem streamFrame_quietInWrite (preamble : Option Half) (ps : List Pixel) :
    QuietInWrite (streamFrame preamble ps) := by
  have hpixels := quietInWrite_flatMap pixelEvents_quietInWrite ps
  cases preamble with
  | none => exact (((quietInWrite_cs 0).append (quietInWrite_cd _)).append hpixels).append (quietInWrite_cs 1)
  | some gw =>
    exact (((commandEvents_quietInWrite gw).append (quietInWrite_cd _)).append hpixels).append (quietInWrite_cs 1)

theorem strobeFrame_quietInWrite (gw : Half) (color : Pixel) (count : Nat) :
    QuietInWrite (strobeFrame gw color count) := by
  have hbare : QuietInWrite (List.replicate (count - 1) (wsEvents ++ wsEvents)).flatten := by
    refine quietInWrite_flatten fun ev hev => ?_
    rw [List.eq_of_mem_replicate hev]
    exact wsEvents_quietInWrite.append wsEvents_quietInWrite
  exact ((((commandEvents_quietInWrite gw).append (quietInWrite_cd _)).append
    (pixelEvents_quietInWrite color)).append hbare).append (quietInWrite_cs 1)

theorem regOpEvents_quietInWrite (op : RegOp) : QuietInWrite (regOpEvents op) := by
  cases op with
  | w8 | w16 | w24 | w32 => exact writeFrame_quietInWrite _ _
  | wp => exact (writeFrame_quietInWrite _ _).append (writeFrame_quietInWrite _ _)
  | wait ms => exact quietInWrite_delay (.init ms)

theorem floodEvents_quietInWrite (strobeOnly : Bool) (gw : Half) (color : Pixel) (count : Nat) :
    QuietInWrite (floodEvents strobeOnly gw color count) := by
  unfold floodEvents
  split
  · exact strobeFrame_quietInWrite gw color count
  · exact streamFrame_quietInWrite _ _

theorem pixelPlacement_quietInWrite (cfg : Config) (v : VariantRecord) (color : Pixel) (x y : Int) :
    QuietInWrite (pixelPlacement cfg v color x y) := by
  unfold pixelPlacement
  split
  · exact (quietInWrite_flatMap regOpEvents_quietInWrite _).append (floodEvents_quietInWrite _ _ _ _)
  · exact quietInWrite_nil

/-! ### Bodies of the composite operations: runs that are quiet in Write -/

/-- The trace grows from `s` to `t` by events that are quiet in Write. -/
def RunsQuietly (s t : State) : Prop :=
  ∃ ev : List Event, t.trace = s.trace ++ ev ∧ QuietInWrite ev

theorem QuietInWrite.runsQuietly {s t : State} {ev : List Event} (hev : QuietInWrite ev)
    (h : t = afterEvents s ev) : RunsQuietly s t := by
  subst h
  exact ⟨ev, rfl, hev⟩

theorem runsQuietly_refl (s : State) : RunsQuietly s s := ⟨[], by simp, quietInWrite_nil⟩

theorem RunsQuietly.trans {s t u : State} (hst : RunsQuietly s t) (htu : RunsQuietly t u) : RunsQuietly s u := by
  obtain ⟨ev₁, htrace₁, hquiet₁⟩ := hst
  obtain ⟨ev₂, htrace₂, hquiet₂⟩ := htu
  exact ⟨ev₁ ++ ev₂, by rw [htrace₂, htrace₁, List.append_assoc], hquiet₁.append hquiet₂⟩

/-- Returning a word is no event. -/
theorem RunsQuietly.returns {s t : State} (h : RunsQuietly s t) (v : Word) : RunsQuietly s (returns v t) := h

theorem strobeWrite_runsQuietly (s : State) : RunsQuietly s (strobeWrite s) :=
  wsEvents_quietInWrite.runsQuietly (strobeWrite_after s)

theorem sendByte_runsQuietly (v : Byte) (s : State) : RunsQuietly s (sendByte v s) :=
  (wbEvents_quietInWrite v).runsQuietly (sendByte_after v s)

theorem commandBody_runsQuietly (cmd : Half) (s : State) : RunsQuietly s (commandBody cmd s) :=
  (commandEvents_quietInWrite cmd).runsQuietly (commandBody_after cmd s)

theorem writeRegBody_runsQuietly (addr : Half) (data : List Byte) (s : State) :
    RunsQuietly s (writeRegBody addr data s) :=
  (writeFrame_quietInWrite addr data).runsQuietly (writeRegBody_after addr data s)

theorem writePairBody_runsQuietly (addrHigh addrLow data : Half) (s : State) :
    RunsQuietly s (writePairBody addrHigh addrLow data s) :=
  (writeRegBody_runsQuietly addrHigh _ s).trans (writeRegBody_runsQuietly addrLow _ _)

theorem readRegBody_runsQuietly (cfg : Config) (addr : Half) {n : Nat} (hn : 0 < n) (s : State) :
    RunsQuietly s (readRegBody cfg addr n s).2 := by
  obtain ⟨seen, -, hread⟩ := readRegBody_after cfg addr n s hn
  exact (readFrame_quietInWrite addr seen).runsQuietly (congrArg Prod.snd hread)

theorem readReg16Body_runsQuietly (cfg : Config) (addr : Half) (s : State) :
    RunsQuietly s (readReg16Body cfg addr s).2 :=
  readRegBody_runsQuietly cfg addr (by decide) s

theorem readReg32Body_runsQuietly (cfg : Config) (addr : Half) (s : State) :
    RunsQuietly s (readReg32Body cfg addr s).2 :=
  readRegBody_runsQuietly cfg addr (by decide) s

theorem readReg16Returning_runsQuietly (cfg : Config) (addr : Half) (s : State) :
    RunsQuietly s (readReg16Returning cfg addr s) :=
  (readReg16Body_runsQuietly cfg addr s).returns _

theorem readReg32Returning_runsQuietly (cfg : Config) (addr : Half) (s : State) :
    RunsQuietly s (readReg32Returning cfg addr s) :=
  (readReg32Body_runsQuietly cfg addr s).returns _

/-! ### Detection (spec/42_detector.md R113 to R118) -/

theorem readExtId_runsQuietly (cfg : Config) (addr : Half) (s : State) :
    RunsQuietly s (readExtId cfg addr s).2 := by
  unfold readExtId
  split
  · exact readReg16Body_runsQuietly cfg addr s
  · exact readReg32Body_runsQuietly cfg addr s

theorem detectStep1_runsQuietly (cfg : Config) (s : State) : RunsQuietly s (detectStep1 cfg s).2.2 :=
  (readExtId_runsQuietly cfg _ s).trans
    ((readExtId_runsQuietly cfg _ _).trans (readReg32Body_runsQuietly cfg _ _))

theorem setcBody_runsQuietly (cfg : Config) (s : State) : RunsQuietly s (setcBody cfg s) := by
  unfold setcBody
  split <;> exact writeRegBody_runsQuietly _ _ s

theorem detectStep3_runsQuietly (cfg : Config) (s : State) : RunsQuietly s (detectStep3 cfg s).2 := by
  have hwait (u : State) : RunsQuietly u (delay .setc u) := (quietInWrite_delay .setc).runsQuietly (delay_after _ u)
  exact (setcBody_runsQuietly cfg s).trans ((hwait _).trans (readReg32Body_runsQuietly cfg _ _))

theorem detectSteps45_runsQuietly (cfg : Config) (s : State) : RunsQuietly s (detectSteps45 cfg s).2 := by
  have hread := readReg32Body_runsQuietly cfg 0x00D3#16 s
  simp only [detectSteps45]
  split
  · exact hread
  · exact hread.trans (readReg16Body_runsQuietly cfg _ _)

theorem readIdBody_runsQuietly (cfg : Config) (s : State) : RunsQuietly s (readIdBody cfg s).2 := by
  have hone := detectStep1_runsQuietly cfg s
  have hthree := hone.trans (detectStep3_runsQuietly cfg _)
  simp only [readIdBody]
  split
  · exact hone
  · split
    · split
      · exact hthree
      · exact hthree.trans (detectSteps45_runsQuietly cfg _)
    · exact hone.trans (detectSteps45_runsQuietly cfg _)

theorem readIdReturning_runsQuietly (cfg : Config) (s : State) : RunsQuietly s (readIdReturning cfg s) :=
  (readIdBody_runsQuietly cfg s).returns _

/-! ### Sequences and drawing (spec/42_detector.md R122, spec/43_blit.md) -/

theorem playOps_runsQuietly (ops : List RegOp) (s : State) : RunsQuietly s (playOps ops s) :=
  (quietInWrite_flatMap regOpEvents_quietInWrite ops).runsQuietly (playOps_after ops s)

/-- A flood sends its first pixel whatever the count, so a count of 0 is as good as 1. -/
theorem floodBody_pred_succ (cfg : Config) (v : VariantRecord) (color : Pixel) (count : Nat) (s : State) :
    floodBody cfg v color (count - 1 + 1) s = floodBody cfg v color count s := by
  simp only [floodBody, floodByStrobes, floodByBytes, Nat.add_sub_cancel]

theorem floodBody_runsQuietly (cfg : Config) (v : VariantRecord) (color : Pixel) (count : Nat) (s : State) :
    RunsQuietly s (floodBody cfg v color count s) := by
  rw [← floodBody_pred_succ]
  exact (floodEvents_quietInWrite _ _ _ _).runsQuietly (floodBody_after cfg v color (Nat.succ_pos _) s)

theorem pushBody_runsQuietly (v : VariantRecord) (first : Bool) (ps : List Pixel) (s : State) :
    RunsQuietly s (pushBody v first ps s) :=
  (streamFrame_quietInWrite _ ps).runsQuietly (pushBody_after v first ps s)

theorem setWindow_runsQuietly (v : VariantRecord) (x1 y1 x2 y2 : Int) (s : State) :
    RunsQuietly s (setWindow v x1 y1 x2 y2 s) :=
  playOps_runsQuietly _ s

/-- The two parts of every fill and line. -/
theorem setWindow_floodBody_runsQuietly (cfg : Config) (v : VariantRecord) (x1 y1 x2 y2 : Int) (color : Pixel)
    (count : Nat) (s : State) : RunsQuietly s (floodBody cfg v color count (setWindow v x1 y1 x2 y2 s)) :=
  (setWindow_runsQuietly v x1 y1 x2 y2 s).trans (floodBody_runsQuietly cfg v color count _)

theorem pixelBody_runsQuietly (cfg : Config) (v : VariantRecord) (color : Pixel) (x y : Int) (s : State) :
    RunsQuietly s (pixelBody cfg v color x y s) :=
  (pixelPlacement_quietInWrite cfg v color x y).runsQuietly (pixelBody_after cfg v color x y s)

theorem bitmapRow_runsQuietly (cfg : Config) (v : VariantRecord) (x y : Int) (ps : List Pixel) (s : State) :
    RunsQuietly s (bitmapRow cfg v x y ps s) :=
  (quietInWrite_flatMap (fun _ => pixelPlacement_quietInWrite cfg v _ _ y) ps.zipIdx).runsQuietly
    (bitmapRow_after cfg v y ps x s)

theorem bitmapRows_runsQuietly (cfg : Config) (v : VariantRecord) (x : Int) (w h : Nat) (y : Int)
    (ps : List Pixel) (s : State) : RunsQuietly s (bitmapRows cfg v x w h y ps s) := by
  induction h generalizing y ps s with
  | zero => exact runsQuietly_refl s
  | succ h ih => exact (bitmapRow_runsQuietly cfg v x y _ s).trans (ih _ _ _)

theorem bitmapBody_runsQuietly (cfg : Config) (v : VariantRecord) (x y w h : Int) (ps : List Pixel) (s : State) :
    RunsQuietly s (bitmapBody cfg v x y w h ps s) := by
  unfold bitmapBody
  split
  · exact (setWindow_runsQuietly v _ _ _ _ s).trans (pushBody_runsQuietly v true ps _)
  · exact bitmapRows_runsQuietly cfg v x _ _ y ps s

theorem fillBody_runsQuietly (cfg : Config) (v : VariantRecord) (color : Pixel) (x y w h : Int) (s : State) :
    RunsQuietly s (fillBody cfg v color x y w h s) := by
  unfold fillBody
  split
  · exact setWindow_floodBody_runsQuietly cfg v _ _ _ _ color _ s
  · exact runsQuietly_refl s

theorem hlineBody_runsQuietly (cfg : Config) (v : VariantRecord) (color : Pixel) (x y len : Int) (s : State) :
    RunsQuietly s (hlineBody cfg v color x y len s) := by
  unfold hlineBody
  split
  · exact setWindow_floodBody_runsQuietly cfg v _ _ _ _ color _ s
  · exact runsQuietly_refl s

theorem vlineBody_runsQuietly (cfg : Config) (v : VariantRecord) (color : Pixel) (x y len : Int) (s : State) :
    RunsQuietly s (vlineBody cfg v color x y len s) := by
  unfold vlineBody
  split
  · exact setWindow_floodBody_runsQuietly cfg v _ _ _ _ color _ s
  · exact runsQuietly_refl s

/-! ### Operations of each admission class -/

/-- The trace grows from `s` to `t` by events that are quiet from the direction that `s` holds. -/
def ExtendsQuietly (s t : State) : Prop :=
  ∃ ev : List Event, t.trace = s.trace ++ ev ∧ quietFrom s.dir ev = true

theorem extendsQuietly_of_trace_eq {s t : State} (htrace : t.trace = s.trace) : ExtendsQuietly s t :=
  ⟨[], by simp [htrace], rfl⟩

theorem RunsQuietly.extendsQuietly {s t : State} (h : RunsQuietly s t) (hdir : s.dir = some .write) :
    ExtendsQuietly s t := by
  obtain ⟨ev, htrace, hev⟩ := h
  exact ⟨ev, htrace, hdir ▸ hev.quiet⟩

theorem needDir_met_iff (d : Dir) (s : State) : needDir d s = none ↔ s.dir = some d := by
  simp [needDir]

theorem readByteBody_trace (cfg : Config) (s : State) :
    ∃ v, (readByteBody cfg s).trace = s.trace ++ rbEvents v :=
  ⟨_, by rw [readByteBody, recvByte_eq]; rfl⟩

/-- RESET raises the strobes and takes the pins, from any direction (R111). -/
theorem exec_reset_extendsQuietly {s t : State} (h : exec .reset s = .next t) : ExtendsQuietly s t := by
  rw [exec_reset_eq] at h
  cases h
  unfold resetBody
  split
  · exact ⟨_, by rw [pulseReset_eq, idlePins_eq, List.append_assoc]; rfl, rfl⟩
  · exact ⟨_, by rw [idlePins_eq]; rfl, rfl⟩

/-- WR_STROBE and WRITE_BYTE ask for Write, READ_BYTE for Read; the others strobe nothing (R85 to R90). -/
theorem exec_busSignal_extendsQuietly {i : Instr} {s t : State} (hclass : admissionClass i = .busSignal)
    (h : exec i s = .next t) : ExtendsQuietly s t := by
  cases i with
  | csAssert | csIdle | cdCommand | cdData | setDirWrite | setDirRead =>
    obtain ⟨-, rfl⟩ := perform_next h
    exact ⟨[_], rfl, rfl⟩
  | wrStrobe =>
    obtain ⟨-, hmet, rfl⟩ := perform_busSignal_next h
    have hdir := (needDir_met_iff .write s).1 (hmet _ (by simp))
    exact (strobeWrite_runsQuietly (clearResult s)).extendsQuietly hdir
  | writeByte v =>
    obtain ⟨-, hmet, rfl⟩ := perform_busSignal_next h
    have hdir := (needDir_met_iff .write s).1 (hmet _ (by simp))
    exact (sendByte_runsQuietly v (clearResult s)).extendsQuietly hdir
  | readByte =>
    obtain ⟨-, hmet, rfl⟩ := perform_busSignal_next h
    have hdir := (needDir_met_iff .read s).1 (hmet _ (by simp))
    obtain ⟨v, htrace⟩ := readByteBody_trace Config.board (clearResult s)
    exact ⟨rbEvents v, htrace, by rw [hdir]; rfl⟩
  | _ => cases hclass

/-- A register operation is admitted in Write only. -/
theorem perform_register_extendsQuietly {body : State → State} {s t : State} (hbody : ∀ u, RunsQuietly u (body u))
    (h : perform registerNeeds body s = .next t) : ExtendsQuietly s t := by
  obtain ⟨⟨-, -, hdir⟩, rfl⟩ := perform_register_next h
  exact (hbody (clearResult s)).extendsQuietly hdir

theorem exec_register_extendsQuietly {i : Instr} {s t : State} (hclass : admissionClass i = .register)
    (h : exec i s = .next t) : ExtendsQuietly s t := by
  cases i with
  | writeCommand cmd => exact perform_register_extendsQuietly (commandBody_runsQuietly cmd) h
  | writeReg8 | writeReg16 | writeReg24 | writeReg32 =>
    exact perform_register_extendsQuietly (writeRegBody_runsQuietly _ _) h
  | writeRegPair => exact perform_register_extendsQuietly (writePairBody_runsQuietly _ _ _) h
  | readReg16 addr => exact perform_register_extendsQuietly (readReg16Returning_runsQuietly _ addr) h
  | readReg32 addr => exact perform_register_extendsQuietly (readReg32Returning_runsQuietly _ addr) h
  | readId => exact perform_register_extendsQuietly (readIdReturning_runsQuietly _) h
  | _ => cases hclass

/-- A variant operation is admitted in Write only. -/
theorem performVariant_extendsQuietly {cfg : Config} {k : VariantRecord → State → Result} {s t : State}
    (hk : ∀ v u w, k v u = .next w → RunsQuietly u w) (h : performVariant cfg k s = .next t) :
    ExtendsQuietly s t := by
  obtain ⟨κ, ⟨-, -, -, hdir⟩, hbody⟩ := performVariant_next_admitted h
  exact (hk _ (clearResult s) _ hbody).extendsQuietly hdir

/-- A variant operation that completes wherever it is admitted. -/
theorem performVariant_next_extendsQuietly {cfg : Config} {body : VariantRecord → State → State} {s t : State}
    (hbody : ∀ v u, RunsQuietly u (body v u))
    (h : performVariant cfg (fun v u => .next (body v u)) s = .next t) : ExtendsQuietly s t := by
  refine performVariant_extendsQuietly (fun v u w hw => ?_) h
  cases hw
  exact hbody v u

theorem floodOn_extendsQuietly {cfg : Config} {color : Pixel} {count : Word} {s t : State}
    (h : floodOn cfg color count s = .next t) : ExtendsQuietly s t := by
  refine performVariant_extendsQuietly (fun v u w hflood => ?_) h
  split at hflood
  · cases hflood
  · cases hflood
    exact floodBody_runsQuietly cfg v color _ u

theorem pushColorsOn_extendsQuietly {cfg : Config} {first : Bool} {count base : Word} {s t : State}
    (h : pushColorsOn cfg first count base s = .next t) : ExtendsQuietly s t := by
  refine performVariant_extendsQuietly (fun v u w hcells => ?_) h
  obtain ⟨-, ps, -, hpush⟩ := withCells_next hcells
  cases hpush
  exact pushBody_runsQuietly v first ps u

theorem drawBitmapOn_extendsQuietly {cfg : Config} {x y w h : Half} {base : Word} {s t : State}
    (hexec : drawBitmapOn cfg x y w h base s = .next t) : ExtendsQuietly s t := by
  refine performVariant_extendsQuietly (fun v u u' hbitmap => ?_) hexec
  split at hbitmap
  · cases hbitmap
    exact runsQuietly_refl u
  · obtain ⟨-, ps, -, hdraw⟩ := withCells_next hbitmap
    cases hdraw
    exact bitmapBody_runsQuietly cfg v _ _ _ _ ps u

theorem exec_variant_extendsQuietly {i : Instr} {s t : State} (hclass : admissionClass i = .variant)
    (h : exec i s = .next t) : ExtendsQuietly s t := by
  cases i with
  | beginInit => exact performVariant_next_extendsQuietly (fun v => playOps_runsQuietly v.initSeq) h
  | setAddrWindow => exact performVariant_next_extendsQuietly (fun _ => playOps_runsQuietly _) h
  | flood => exact floodOn_extendsQuietly h
  | pushColors => exact pushColorsOn_extendsQuietly h
  | drawBitmap => exact drawBitmapOn_extendsQuietly h
  | drawPixel color => exact performVariant_next_extendsQuietly (fun v => pixelBody_runsQuietly _ v color _ _) h
  | fillRect color =>
    exact performVariant_next_extendsQuietly (fun v => fillBody_runsQuietly _ v color _ _ _ _) h
  | drawFastHLine color =>
    exact performVariant_next_extendsQuietly (fun v => hlineBody_runsQuietly _ v color _ _ _) h
  | drawFastVLine color =>
    exact performVariant_next_extendsQuietly (fun v => vlineBody_runsQuietly _ v color _ _ _) h
  | _ => cases hclass

theorem exec_extendsQuietly {i : Instr} {s t : State} (h : exec i s = .next t) : ExtendsQuietly s t := by
  cases hclass : admissionClass i with
  | always =>
    obtain rfl := (admissionClass_eq_always_iff i).1 hclass
    exact exec_reset_extendsQuietly h
  | spawn =>
    obtain ⟨id, rfl⟩ := (admissionClass_eq_spawn_iff i).1 hclass
    obtain ⟨-, kind, word, rfl⟩ := exec_spawn_next h
    exact extendsQuietly_of_trace_eq rfl
  | busSignal => exact exec_busSignal_extendsQuietly hclass h
  | register => exact exec_register_extendsQuietly hclass h
  | variant => exact exec_variant_extendsQuietly hclass h

/-! ### Acts and steps -/

theorem takeAct_extendsQuietly {a : HostAct} {s t : State} (h : takeAct a s = .next t) : ExtendsQuietly s t := by
  obtain ⟨i, hexec⟩ | ⟨index, pixel, rfl⟩ | ⟨index, rfl⟩ := takeAct_next h
  · exact exec_extendsQuietly hexec
  · exact extendsQuietly_of_trace_eq rfl
  · exact extendsQuietly_of_trace_eq rfl

theorem step_extendsQuietly {s t : State} (h : step s = .next t) : ExtendsQuietly s t := by
  obtain rfl | ⟨a, rest, hact⟩ := step_next h
  · exact extendsQuietly_of_trace_eq rfl
  · exact takeAct_extendsQuietly (s := { s with pending := rest }) hact

/-- Where the trace says what DIR holds, a quiet trace stays quiet. -/
theorem ExtendsQuietly.quietFrom_trace {s t : State} (h : ExtendsQuietly s t) (hagrees : traceAgrees s)
    (hquiet : quietFrom none s.trace = true) : quietFrom none t.trace = true := by
  obtain ⟨ev, htrace, hev⟩ := h
  have hdir : (replay s.trace).dir = s.dir := by rw [hagrees]; rfl
  calc quietFrom none t.trace
      = (quietFrom none s.trace && quietFrom (replay s.trace).dir ev) := by rw [htrace, quietFrom_replay]
    _ = true := by rw [hquiet, hdir, hev, Bool.and_self]

/-! ### The statements -/

/-- Settles O49: an operation's events are quiet from the direction it finds, which the trace so far ends with. -/
theorem everyStepKeepsTheBusFreeOfContention : Obligations.EveryStepKeepsTheBusFreeOfContention := by
  unfold Obligations.EveryStepKeepsTheBusFreeOfContention
  intro s t hagrees hquiet hstep
  exact (step_extendsQuietly hstep).quietFrom_trace hagrees hquiet

/-- Settles O50: a step is a run of events; a run is one too, act by act, since a refused act leaves its state. -/
theorem eventsHappenInProgramOrder : Obligations.EventsHappenInProgramOrder := by
  unfold Obligations.EventsHappenInProgramOrder
  exact ⟨fun s t hstep => (step_followsEvents hstep).trace_isPrefix, runActs_trace_isPrefix⟩

end Sys2Proof.Machine
end

section
/-! PROOF. The encoding of operations (spec/30_encoding.md R64 to R70). Word 0 is its three parts put together, and
format by format the decoder undoes the encoder's layout, the encoder the decoder's, and a row of the table of match
and mask leaves exactly the operands free. So the decoder inverts the encoder on every operation, the encoder the
decoder on every descriptor, and the table takes exactly the encodings. -/

namespace Sys2Proof

/-! ### Words and their parts (R64, R66) -/

@[simp] theorem opcodeOf_headWord (op flags : Byte) (imm : Half) : opcodeOf (headWord op flags imm) = op :=
  (BitVec.extractLsb'_append_eq_of_le (by decide)).trans BitVec.extractLsb'_append_eq_left

@[simp] theorem flagsOf_headWord (op flags : Byte) (imm : Half) : flagsOf (headWord op flags imm) = flags :=
  (BitVec.extractLsb'_append_eq_of_le (by decide)).trans BitVec.extractLsb'_append_eq_right

/-- A field inside the lower half of word 0 is one of `imm`. -/
theorem extractLsb'_headWord {start len : Nat} (op flags : Byte) (imm : Half) (h : start + len ≤ 16) :
    (headWord op flags imm).extractLsb' start len = imm.extractLsb' start len :=
  BitVec.extractLsb'_append_eq_of_add_le h

@[simp] theorem loHalf_headWord (op flags : Byte) (imm : Half) : loHalf (headWord op flags imm) = imm :=
  BitVec.extractLsb'_append_eq_right

@[simp] theorem hiHalf_append (hi lo : Half) : hiHalf (hi ++ lo) = hi := BitVec.extractLsb'_append_eq_left

@[simp] theorem loHalf_append (hi lo : Half) : loHalf (hi ++ lo) = lo := BitVec.extractLsb'_append_eq_right

@[simp] theorem hiHalf_append_loHalf (w : Word) : hiHalf w ++ loHalf w = w :=
  BitVec.extractLsb'_append_extractLsb'

/-- Word 0 is its three parts. -/
theorem headWord_parts (w : Word) : headWord (opcodeOf w) (flagsOf w) (loHalf w) = w := by
  have htop : opcodeOf w ++ flagsOf w = hiHalf w :=
    BitVec.extractLsb'_append_extractLsb'_eq_extractLsb' (by decide)
  rw [headWord, htop, hiHalf_append_loHalf]

theorem loHalf_eq_append (w : Word) : loHalf w = w.extractLsb' 8 8 ++ w.extractLsb' 0 8 :=
  (BitVec.extractLsb'_append_extractLsb'_eq_extractLsb' (x := w) (start₁ := 0) (len₁ := 8) rfl).symm

/-- The upper seven bits of the flags byte. -/
theorem extractLsb'_flags (w : Word) : w.extractLsb' 17 7 = (flagsOf w).extractLsb' 1 7 := by
  ext k hk
  simp [flagsOf, show 1 + k < 8 by omega, ← Nat.add_assoc]

/-- The lowest bit of the flags byte. -/
theorem getLsbD_flags (w : Word) : w.getLsbD 16 = (flagsOf w).getLsbD 0 := by
  simp [flagsOf]

/-- The flags byte over its lowest bit. -/
theorem flagsOf_eq_append (w : Word) : flagsOf w = w.extractLsb' 17 7 ++ BitVec.ofBool (w.getLsbD 16) := by
  have hbit : BitVec.ofBool (w.getLsbD 16) = w.extractLsb' 16 1 := by
    ext k hk
    obtain rfl : k = 0 := by omega
    simp
  rw [hbit]
  exact (BitVec.extractLsb'_append_extractLsb'_eq_extractLsb' (x := w) (start₁ := 16) (len₁ := 1) rfl).symm

/-- A word with no upper half is its lower half under zeros. -/
theorem append_loHalf_of_hiHalf {w : Word} (h : hiHalf w = 0) : 0#16 ++ loHalf w = w := by
  rw [← hiHalf_append_loHalf w, h, loHalf_append]
  rfl

/-- A word that is small enough is its lower bits under zeros. -/
theorem setWidth_setWidth_of_lt {n : Nat} {w : Word} (h : w.toNat < 2 ^ n) : (w.setWidth n).setWidth 32 = w := by
  apply BitVec.eq_of_toNat_eq
  rw [BitVec.toNat_setWidth, BitVec.toNat_setWidth, Nat.mod_eq_of_lt h, Nat.mod_eq_of_lt w.isLt]

/-! ### Format by format: decoding what was encoded -/

theorem decodeF0_headWord (i : Instr) (op : Byte) : decodeF0 i (headWord op 0 0) [] = .ok i := by
  simp [decodeF0]

theorem decodeFB_headWord (f : Byte → Instr) (op v : Byte) : decodeFB f (headWord op 0 (0#8 ++ v)) [] = .ok (f v) := by
  have hhigh : (headWord op 0 (0#8 ++ v)).extractLsb' 8 8 = 0#8 :=
    (extractLsb'_headWord _ _ _ (by decide)).trans BitVec.extractLsb'_append_eq_left
  have hlow : (headWord op 0 (0#8 ++ v)).extractLsb' 0 8 = v :=
    (extractLsb'_headWord _ _ _ (by decide)).trans BitVec.extractLsb'_append_eq_right
  rw [decodeFB, if_pos ⟨flagsOf_headWord _ _ _, hhigh⟩, hlow]

theorem decodeFA_headWord (f : Half → Instr) (op : Byte) (a : Half) : decodeFA f (headWord op 0 a) [] = .ok (f a) := by
  simp [decodeFA]

theorem decodeFR_headWord {n : Nat} (hn : n ≤ 32) (f : Half → BitVec n → Instr) (op : Byte) (a : Half)
    (data : BitVec n) : decodeFR n f (headWord op 0 a) [data.setWidth 32] = .ok (f a data) := by
  have hlt : (data.setWidth 32).toNat < 2 ^ n := by
    rw [BitVec.toNat_setWidth_of_le hn]
    exact data.isLt
  have hdata : (data.setWidth 32).setWidth n = data :=
    (BitVec.setWidth_setWidth_of_le _ hn).trans data.setWidth_eq
  rw [decodeFR, if_pos (flagsOf_headWord _ _ _), if_pos hlt, hdata, loHalf_headWord]

theorem decodeTwo_headWord (f : Half → Word → Instr) (op : Byte) (a : Half) (w : Word) :
    decodeTwo f (headWord op 0 a) [w] = .ok (f a w) := by
  simp [decodeTwo]

theorem decodeFW_headWord (f : Half → Half → Half → Half → Instr) (op : Byte) (a b c d : Half) :
    decodeFW f (headWord op 0 0) [a ++ b, c ++ d] = .ok (f a b c d) := by
  simp [decodeFW]

theorem decodeFS_headWord (f : Bool → Word → Word → Instr) (op : Byte) (first : Bool) (w₁ w₂ : Word) :
    decodeFS f (headWord op (0#7 ++ BitVec.ofBool first) 0) [w₁, w₂] = .ok (f first w₁ w₂) := by
  have hupper : (headWord op (0#7 ++ BitVec.ofBool first) 0).extractLsb' 17 7 = 0#7 := by
    rw [extractLsb'_flags, flagsOf_headWord]
    exact BitVec.extractLsb'_append_eq_left
  have hfirst : (headWord op (0#7 ++ BitVec.ofBool first) 0).getLsbD 16 = first := by
    rw [getLsbD_flags, flagsOf_headWord]
    cases first <;> rfl
  rw [decodeFS, if_pos ⟨hupper, loHalf_headWord _ _ _⟩, hfirst]

theorem decodeFM_headWord (f : Half → Half → Half → Half → Word → Instr) (op : Byte) (a b c d : Half) (w : Word) :
    decodeFM f (headWord op 0 0) [a ++ b, c ++ d, w] = .ok (f a b c d w) := by
  simp [decodeFM]

theorem decodeFQ_headWord (f : Half → Half → Half → Half → Half → Instr) (op : Byte) (color a b c d : Half) :
    decodeFQ f (headWord op 0 color) [a ++ b, c ++ d] = .ok (f color a b c d) := by
  simp [decodeFQ]

theorem decodeFL_headWord (f : Half → Half → Half → Half → Instr) (op : Byte) (color a b len : Half) :
    decodeFL f (headWord op 0 color) [a ++ b, 0#16 ++ len] = .ok (f color a b len) := by
  simp [decodeFL]

/-! ### Format by format: encoding what was decoded -/

section
variable {w₀ : Word} {tail : List Word} {op : Byte} {i : Instr}

/-- A format's last check: it passed, and the answer is the operation. -/
theorem ite_ok_eq_ok {p : Prop} [Decidable p] {j : Instr} {e : DecodeError}
    (h : (if p then Except.ok j else .error e) = .ok i) : p ∧ j = i := by
  split at h
  · next hp => exact ⟨hp, Except.ok.inj h⟩
  · cases h

/-- Word 0 of a format without flags. -/
theorem headWord_of_flags (hop : opcodeOf w₀ = op) (hflags : flagsOf w₀ = 0) : headWord op 0 (loHalf w₀) = w₀ := by
  rw [← hop, ← hflags, headWord_parts]

/-- Word 0 of a format without flags and `imm`. -/
theorem headWord_of_zeros (hop : opcodeOf w₀ = op) (hzero : flagsOf w₀ = 0 ∧ loHalf w₀ = 0) :
    headWord op 0 0 = w₀ := by
  rw [← hzero.2, headWord_of_flags hop hzero.1]

/-- Word 0 of format FB. -/
theorem headWord_of_byte (hop : opcodeOf w₀ = op) (hzero : flagsOf w₀ = 0 ∧ w₀.extractLsb' 8 8 = 0) :
    headWord op 0 (0#8 ++ w₀.extractLsb' 0 8) = w₀ := by
  have himm : 0#8 ++ w₀.extractLsb' 0 8 = loHalf w₀ := by rw [loHalf_eq_append, hzero.2]; rfl
  rw [himm, headWord_of_flags hop hzero.1]

/-- Word 0 of format FS. -/
theorem headWord_of_first (hop : opcodeOf w₀ = op) (hzero : w₀.extractLsb' 17 7 = 0 ∧ loHalf w₀ = 0) :
    headWord op (0#7 ++ BitVec.ofBool (w₀.getLsbD 16)) 0 = w₀ := by
  have hflags : 0#7 ++ BitVec.ofBool (w₀.getLsbD 16) = flagsOf w₀ := by rw [flagsOf_eq_append, hzero.1]; rfl
  rw [hflags, ← hop, ← hzero.2, headWord_parts]

theorem encode_of_decodeF0 {j : Instr} (henc : encode j = [headWord op 0 0]) (hop : opcodeOf w₀ = op)
    (h : decodeF0 j w₀ tail = .ok i) : encode i = w₀ :: tail := by
  unfold decodeF0 at h
  split at h
  · obtain ⟨hzero, rfl⟩ := ite_ok_eq_ok h
    rw [henc, headWord_of_zeros hop hzero]
  · cases h

theorem encode_of_decodeFB {f : Byte → Instr} (henc : ∀ v, encode (f v) = [headWord op 0 (0#8 ++ v)])
    (hop : opcodeOf w₀ = op) (h : decodeFB f w₀ tail = .ok i) : encode i = w₀ :: tail := by
  unfold decodeFB at h
  split at h
  · obtain ⟨hzero, rfl⟩ := ite_ok_eq_ok h
    rw [henc, headWord_of_byte hop hzero]
  · cases h

theorem encode_of_decodeFA {f : Half → Instr} (henc : ∀ a, encode (f a) = [headWord op 0 a])
    (hop : opcodeOf w₀ = op) (h : decodeFA f w₀ tail = .ok i) : encode i = w₀ :: tail := by
  unfold decodeFA at h
  split at h
  · obtain ⟨hflags, rfl⟩ := ite_ok_eq_ok h
    rw [henc, headWord_of_flags hop hflags]
  · cases h

theorem encode_of_decodeFR {n : Nat} {f : Half → BitVec n → Instr}
    (henc : ∀ a data, encode (f a data) = [headWord op 0 a, data.setWidth 32])
    (hop : opcodeOf w₀ = op) (h : decodeFR n f w₀ tail = .ok i) : encode i = w₀ :: tail := by
  unfold decodeFR at h
  split at h
  · split at h
    · next hflags =>
      obtain ⟨hlt, rfl⟩ := ite_ok_eq_ok h
      rw [henc, headWord_of_flags hop hflags, setWidth_setWidth_of_lt hlt]
    · cases h
  · cases h

theorem encode_of_decodeTwo {f : Half → Word → Instr} (henc : ∀ a w, encode (f a w) = [headWord op 0 a, w])
    (hop : opcodeOf w₀ = op) (h : decodeTwo f w₀ tail = .ok i) : encode i = w₀ :: tail := by
  unfold decodeTwo at h
  split at h
  · obtain ⟨hflags, rfl⟩ := ite_ok_eq_ok h
    rw [henc, headWord_of_flags hop hflags]
  · cases h

theorem encode_of_decodeFW {f : Half → Half → Half → Half → Instr}
    (henc : ∀ a b c d, encode (f a b c d) = [headWord op 0 0, a ++ b, c ++ d])
    (hop : opcodeOf w₀ = op) (h : decodeFW f w₀ tail = .ok i) : encode i = w₀ :: tail := by
  unfold decodeFW at h
  split at h
  · obtain ⟨hzero, rfl⟩ := ite_ok_eq_ok h
    rw [henc, headWord_of_zeros hop hzero, hiHalf_append_loHalf, hiHalf_append_loHalf]
  · cases h

theorem encode_of_decodeFS {f : Bool → Word → Word → Instr}
    (henc : ∀ first w₁ w₂, encode (f first w₁ w₂) = [headWord op (0#7 ++ BitVec.ofBool first) 0, w₁, w₂])
    (hop : opcodeOf w₀ = op) (h : decodeFS f w₀ tail = .ok i) : encode i = w₀ :: tail := by
  unfold decodeFS at h
  split at h
  · obtain ⟨hzero, rfl⟩ := ite_ok_eq_ok h
    rw [henc, headWord_of_first hop hzero]
  · cases h

theorem encode_of_decodeFM {f : Half → Half → Half → Half → Word → Instr}
    (henc : ∀ a b c d w, encode (f a b c d w) = [headWord op 0 0, a ++ b, c ++ d, w])
    (hop : opcodeOf w₀ = op) (h : decodeFM f w₀ tail = .ok i) : encode i = w₀ :: tail := by
  unfold decodeFM at h
  split at h
  · obtain ⟨hzero, rfl⟩ := ite_ok_eq_ok h
    rw [henc, headWord_of_zeros hop hzero, hiHalf_append_loHalf, hiHalf_append_loHalf]
  · cases h

theorem encode_of_decodeFQ {f : Half → Half → Half → Half → Half → Instr}
    (henc : ∀ color a b c d, encode (f color a b c d) = [headWord op 0 color, a ++ b, c ++ d])
    (hop : opcodeOf w₀ = op) (h : decodeFQ f w₀ tail = .ok i) : encode i = w₀ :: tail := by
  unfold decodeFQ at h
  split at h
  · obtain ⟨hflags, rfl⟩ := ite_ok_eq_ok h
    rw [henc, headWord_of_flags hop hflags, hiHalf_append_loHalf, hiHalf_append_loHalf]
  · cases h

theorem encode_of_decodeFL {f : Half → Half → Half → Half → Instr}
    (henc : ∀ color a b len, encode (f color a b len) = [headWord op 0 color, a ++ b, 0#16 ++ len])
    (hop : opcodeOf w₀ = op) (h : decodeFL f w₀ tail = .ok i) : encode i = w₀ :: tail := by
  unfold decodeFL at h
  split at h
  · obtain ⟨⟨hflags, hhigh⟩, rfl⟩ := ite_ok_eq_ok h
    rw [henc, headWord_of_flags hop hflags, hiHalf_append_loHalf, append_loHalf_of_hiHalf hhigh]
  · cases h

end

/-! ### The round trips -/

/-- The second word as it stands: format FP. -/
theorem encode_writeRegPair_halves (a : Half) (w : Word) :
    encode (.writeRegPair a (hiHalf w) (loHalf w)) = [headWord 0x25#8 0 a, w] := by
  rw [encode, hiHalf_append_loHalf]

/-- The second word as it stands: format FX. -/
theorem encode_drawPixel_halves (color : Pixel) (w : Word) :
    encode (.drawPixel color (hiHalf w) (loHalf w)) = [headWord 0x44#8 0 color, w] := by
  rw [encode, hiHalf_append_loHalf]

theorem decode_encode (i : Instr) : decode (encode i) = .ok i := by
  cases i with
  | csAssert | csIdle | cdCommand | cdData | wrStrobe | readByte | setDirWrite | setDirRead | reset | readId
  | beginInit => simp only [encode, decode, opcodeOf_headWord, decodeF0_headWord]
  | writeByte => simp only [encode, decode, opcodeOf_headWord, decodeFB_headWord]
  | writeCommand | readReg16 | readReg32 | spawn =>
    simp only [encode, decode, opcodeOf_headWord, decodeFA_headWord]
  | writeReg8 | writeReg16 | writeReg24 =>
    simp only [encode, decode, opcodeOf_headWord]
    exact decodeFR_headWord (by decide) _ _ _ _
  | writeReg32 addr data =>
    have hfr := decodeFR_headWord (Nat.le_refl 32) .writeReg32 0x24#8 addr data
    rw [BitVec.setWidth_eq] at hfr
    simp only [encode, decode, opcodeOf_headWord, hfr]
  | writeRegPair | flood | drawPixel =>
    simp only [encode, decode, opcodeOf_headWord, decodeTwo_headWord, hiHalf_append, loHalf_append]
  | setAddrWindow => simp only [encode, decode, opcodeOf_headWord, decodeFW_headWord]
  | pushColors => simp only [encode, decode, opcodeOf_headWord, decodeFS_headWord]
  | drawBitmap => simp only [encode, decode, opcodeOf_headWord, decodeFM_headWord]
  | fillRect => simp only [encode, decode, opcodeOf_headWord, decodeFQ_headWord]
  | drawFastHLine | drawFastVLine => simp only [encode, decode, opcodeOf_headWord, decodeFL_headWord]

/-- Settles O55: each operation by its format. -/
theorem decodeOfEncodeIsTheOperation : Obligations.DecodeOfEncodeIsTheOperation := by
  unfold Obligations.DecodeOfEncodeIsTheOperation
  exact decode_encode

theorem encode_of_decode {d : List Word} {i : Instr} (h : decode d = .ok i) : encode i = d := by
  unfold decode at h
  split at h
  · cases h
  next w₀ tail =>
  split at h
  -- 0x10 to 0x18 (BusSignal)
  next hop => exact encode_of_decodeF0 rfl hop h
  next hop => exact encode_of_decodeF0 rfl hop h
  next hop => exact encode_of_decodeF0 rfl hop h
  next hop => exact encode_of_decodeF0 rfl hop h
  next hop => exact encode_of_decodeF0 rfl hop h
  next hop => exact encode_of_decodeFB (fun _ => rfl) hop h
  next hop => exact encode_of_decodeF0 rfl hop h
  next hop => exact encode_of_decodeF0 rfl hop h
  next hop => exact encode_of_decodeF0 rfl hop h
  -- 0x20 to 0x27 (RegisterProtocol)
  next hop => exact encode_of_decodeFA (fun _ => rfl) hop h
  next hop => exact encode_of_decodeFR (fun _ _ => rfl) hop h
  next hop => exact encode_of_decodeFR (fun _ _ => rfl) hop h
  next hop => exact encode_of_decodeFR (fun _ _ => rfl) hop h
  next hop => exact encode_of_decodeFR (fun _ data => by rw [encode, data.setWidth_eq]) hop h
  next hop => exact encode_of_decodeTwo encode_writeRegPair_halves hop h
  next hop => exact encode_of_decodeFA (fun _ => rfl) hop h
  next hop => exact encode_of_decodeFA (fun _ => rfl) hop h
  -- 0x30 to 0x33 (start-up and detection)
  next hop => exact encode_of_decodeF0 rfl hop h
  next hop => exact encode_of_decodeF0 rfl hop h
  next hop => exact encode_of_decodeFA (fun _ => rfl) hop h
  next hop => exact encode_of_decodeF0 rfl hop h
  -- 0x40 to 0x47 (BlitEngine)
  next hop => exact encode_of_decodeFW (fun _ _ _ _ => rfl) hop h
  next hop => exact encode_of_decodeTwo (fun _ _ => rfl) hop h
  next hop => exact encode_of_decodeFS (fun _ _ _ => rfl) hop h
  next hop => exact encode_of_decodeFM (fun _ _ _ _ _ => rfl) hop h
  next hop => exact encode_of_decodeTwo encode_drawPixel_halves hop h
  next hop => exact encode_of_decodeFQ (fun _ _ _ _ _ => rfl) hop h
  next hop => exact encode_of_decodeFL (fun _ _ _ _ => rfl) hop h
  next hop => exact encode_of_decodeFL (fun _ _ _ _ => rfl) hop h
  -- no other opcode
  · cases h

/-- Settles O56: each opcode by its format. -/
theorem everyOperationHasOneDescriptor : Obligations.EveryOperationHasOneDescriptor := by
  unfold Obligations.EveryOperationHasOneDescriptor
  intro d i h
  exact encode_of_decode h

/-! ### The table of match and mask (R69) -/

/-- A row takes a descriptor: word 0 matches under the mask, and each further word has its must-be-zero bits clear. -/
def FormatRow.Takes (r : FormatRow) (d : List Word) : Prop :=
  ∃ w₀ tail, d = w₀ :: tail ∧ w₀ &&& r.mask = r.pattern ∧ List.Forall₂ (fun w zero => w &&& zero = 0) tail r.tailZero

theorem wellFormed_iff (d : List Word) : wellFormed d = true ↔ ∃ r ∈ formatRows, r.Takes d := by
  cases d with
  | nil => simp [wellFormed, FormatRow.Takes]
  | cons w₀ tail =>
    simp [wellFormed, FormatRow.Takes, FormatRow.headOk, FormatRow.lengthOk, FormatRow.tailOk,
      List.forall₂_iff_zip, and_assoc]

section
variable {w₀ : Word} {op : Byte} {d : List Word}

/-- A field that the mask covers is the pattern's. -/
theorem extractLsb'_eq_of_masked {start len : Nat} {w mask pattern : Word} (h : w &&& mask = pattern)
    (hmask : mask.extractLsb' start len = BitVec.allOnes len) :
    w.extractLsb' start len = pattern.extractLsb' start len := by
  rw [← h, BitVec.extractLsb'_and, hmask, BitVec.and_allOnes]

theorem opcodeOf_of_masked {mask : Word} (h : w₀ &&& mask = headWord op 0 0)
    (hmask : mask.extractLsb' 24 8 = BitVec.allOnes 8) : opcodeOf w₀ = op :=
  (extractLsb'_eq_of_masked h hmask).trans (opcodeOf_headWord op 0 0)

theorem flagsOf_of_masked {mask : Word} (h : w₀ &&& mask = headWord op 0 0)
    (hmask : mask.extractLsb' 16 8 = BitVec.allOnes 8) : flagsOf w₀ = 0 :=
  (extractLsb'_eq_of_masked h hmask).trans (flagsOf_headWord op 0 0)

theorem loHalf_of_masked {mask : Word} (h : w₀ &&& mask = headWord op 0 0)
    (hmask : mask.extractLsb' 0 16 = BitVec.allOnes 16) : loHalf w₀ = 0 :=
  (extractLsb'_eq_of_masked h hmask).trans (loHalf_headWord op 0 0)

theorem hiHalf_of_masked {w : Word} (h : w &&& 0xFFFF0000#32 = 0) : hiHalf w = 0 :=
  (extractLsb'_eq_of_masked h (by decide)).trans (by decide)

theorem head_of_mask_all (h : w₀ &&& 0xFFFFFFFF#32 = headWord op 0 0) : headWord op 0 0 = w₀ :=
  headWord_of_zeros (opcodeOf_of_masked h (by decide))
    ⟨flagsOf_of_masked h (by decide), loHalf_of_masked h (by decide)⟩

theorem head_of_mask_half (h : w₀ &&& 0xFFFF0000#32 = headWord op 0 0) : headWord op 0 (loHalf w₀) = w₀ :=
  headWord_of_flags (opcodeOf_of_masked h (by decide)) (flagsOf_of_masked h (by decide))

theorem head_of_mask_byte (h : w₀ &&& 0xFFFFFF00#32 = headWord op 0 0) :
    headWord op 0 (0#8 ++ w₀.extractLsb' 0 8) = w₀ := by
  have hzero : w₀.extractLsb' 8 8 = 0 :=
    (extractLsb'_eq_of_masked h (by decide)).trans (extractLsb'_headWord op 0 0 (by decide))
  exact headWord_of_byte (opcodeOf_of_masked h (by decide)) ⟨flagsOf_of_masked h (by decide), hzero⟩

theorem head_of_mask_first (h : w₀ &&& 0xFFFEFFFF#32 = headWord op 0 0) :
    headWord op (0#7 ++ BitVec.ofBool (w₀.getLsbD 16)) 0 = w₀ := by
  have hupper : w₀.extractLsb' 17 7 = 0 :=
    (extractLsb'_eq_of_masked h (by decide)).trans (by rw [extractLsb'_flags, flagsOf_headWord]; rfl)
  exact headWord_of_first (opcodeOf_of_masked h (by decide)) ⟨hupper, loHalf_of_masked h (by decide)⟩

/-- A word whose bits from `n` up are clear is its lower bits under zeros. -/
theorem setWidth_setWidth_of_masked {n : Nat} {w mask : Word} (h : w &&& mask = 0)
    (hmask : ∀ k < 32, n ≤ k → mask.getLsbD k = true) : (w.setWidth n).setWidth 32 = w := by
  ext k hk
  have hbit : (w &&& mask).getLsbD k = false := by rw [h]; exact BitVec.getLsbD_zero
  rw [BitVec.getLsbD_and, BitVec.getLsbD_eq_getElem hk] at hbit
  by_cases hn : n ≤ k
  · rw [hmask k hk hn, Bool.and_true] at hbit
    simp [hbit, hn]
  · simp [hk, Nat.lt_of_not_le hn]

/-! Each kind of row, with the operands it leaves free. -/

theorem exists_encode_of_takesF0 {i : Instr} (henc : encode i = [headWord op 0 0])
    (h : FormatRow.Takes ⟨headWord op 0 0, 0xFFFFFFFF#32, []⟩ d) : ∃ i, encode i = d := by
  obtain ⟨w₀, tail, rfl, hhead, ⟨⟩⟩ := h
  exact ⟨i, by rw [henc, head_of_mask_all hhead]⟩

theorem exists_encode_of_takesFB {f : Byte → Instr} (henc : ∀ v, encode (f v) = [headWord op 0 (0#8 ++ v)])
    (h : FormatRow.Takes ⟨headWord op 0 0, 0xFFFFFF00#32, []⟩ d) : ∃ i, encode i = d := by
  obtain ⟨w₀, tail, rfl, hhead, ⟨⟩⟩ := h
  exact ⟨f _, by rw [henc, head_of_mask_byte hhead]⟩

theorem exists_encode_of_takesFA {f : Half → Instr} (henc : ∀ a, encode (f a) = [headWord op 0 a])
    (h : FormatRow.Takes ⟨headWord op 0 0, 0xFFFF0000#32, []⟩ d) : ∃ i, encode i = d := by
  obtain ⟨w₀, tail, rfl, hhead, ⟨⟩⟩ := h
  exact ⟨f _, by rw [henc, head_of_mask_half hhead]⟩

theorem exists_encode_of_takesFR {n : Nat} {mask : Word} {f : Half → BitVec n → Instr}
    (hmask : ∀ k < 32, n ≤ k → mask.getLsbD k = true)
    (henc : ∀ a data, encode (f a data) = [headWord op 0 a, data.setWidth 32])
    (h : FormatRow.Takes ⟨headWord op 0 0, 0xFFFF0000#32, [mask]⟩ d) : ∃ i, encode i = d := by
  obtain ⟨w₀, tail, rfl, hhead, _ | ⟨hdata, ⟨⟩⟩⟩ := h
  exact ⟨f _ _, by rw [henc, head_of_mask_half hhead, setWidth_setWidth_of_masked hdata hmask]⟩

theorem exists_encode_of_takesTwo {f : Half → Word → Instr} (henc : ∀ a w, encode (f a w) = [headWord op 0 a, w])
    (h : FormatRow.Takes ⟨headWord op 0 0, 0xFFFF0000#32, [0#32]⟩ d) : ∃ i, encode i = d := by
  obtain ⟨w₀, tail, rfl, hhead, _ | ⟨-, ⟨⟩⟩⟩ := h
  exact ⟨f _ _, by rw [henc, head_of_mask_half hhead]⟩

theorem exists_encode_of_takesFW {f : Half → Half → Half → Half → Instr}
    (henc : ∀ a b c d, encode (f a b c d) = [headWord op 0 0, a ++ b, c ++ d])
    (h : FormatRow.Takes ⟨headWord op 0 0, 0xFFFFFFFF#32, [0#32, 0#32]⟩ d) : ∃ i, encode i = d := by
  obtain ⟨w₀, tail, rfl, hhead, _ | @⟨w₁, _, _, _, -, _ | @⟨w₂, _, _, _, -, ⟨⟩⟩⟩⟩ := h
  exact ⟨f (hiHalf w₁) (loHalf w₁) (hiHalf w₂) (loHalf w₂),
    by rw [henc, head_of_mask_all hhead, hiHalf_append_loHalf, hiHalf_append_loHalf]⟩

theorem exists_encode_of_takesFS {f : Bool → Word → Word → Instr}
    (henc : ∀ first w₁ w₂, encode (f first w₁ w₂) = [headWord op (0#7 ++ BitVec.ofBool first) 0, w₁, w₂])
    (h : FormatRow.Takes ⟨headWord op 0 0, 0xFFFEFFFF#32, [0#32, 0#32]⟩ d) : ∃ i, encode i = d := by
  obtain ⟨w₀, tail, rfl, hhead, _ | ⟨-, _ | ⟨-, ⟨⟩⟩⟩⟩ := h
  exact ⟨f _ _ _, by rw [henc, head_of_mask_first hhead]⟩

theorem exists_encode_of_takesFM {f : Half → Half → Half → Half → Word → Instr}
    (henc : ∀ a b c d w, encode (f a b c d w) = [headWord op 0 0, a ++ b, c ++ d, w])
    (h : FormatRow.Takes ⟨headWord op 0 0, 0xFFFFFFFF#32, [0#32, 0#32, 0#32]⟩ d) : ∃ i, encode i = d := by
  obtain ⟨w₀, tail, rfl, hhead, _ | @⟨w₁, _, _, _, -, _ | @⟨w₂, _, _, _, -, _ | @⟨w₃, _, _, _, -, ⟨⟩⟩⟩⟩⟩ := h
  exact ⟨f (hiHalf w₁) (loHalf w₁) (hiHalf w₂) (loHalf w₂) w₃,
    by rw [henc, head_of_mask_all hhead, hiHalf_append_loHalf, hiHalf_append_loHalf]⟩

theorem exists_encode_of_takesFQ {f : Half → Half → Half → Half → Half → Instr}
    (henc : ∀ color a b c d, encode (f color a b c d) = [headWord op 0 color, a ++ b, c ++ d])
    (h : FormatRow.Takes ⟨headWord op 0 0, 0xFFFF0000#32, [0#32, 0#32]⟩ d) : ∃ i, encode i = d := by
  obtain ⟨w₀, tail, rfl, hhead, _ | @⟨w₁, _, _, _, -, _ | @⟨w₂, _, _, _, -, ⟨⟩⟩⟩⟩ := h
  exact ⟨f (loHalf w₀) (hiHalf w₁) (loHalf w₁) (hiHalf w₂) (loHalf w₂),
    by rw [henc, head_of_mask_half hhead, hiHalf_append_loHalf, hiHalf_append_loHalf]⟩

theorem exists_encode_of_takesFL {f : Half → Half → Half → Half → Instr}
    (henc : ∀ color a b len, encode (f color a b len) = [headWord op 0 color, a ++ b, 0#16 ++ len])
    (h : FormatRow.Takes ⟨headWord op 0 0, 0xFFFF0000#32, [0#32, 0xFFFF0000#32]⟩ d) : ∃ i, encode i = d := by
  obtain ⟨w₀, tail, rfl, hhead, _ | @⟨w₁, _, _, _, -, _ | @⟨w₂, _, _, _, hlen, ⟨⟩⟩⟩⟩ := h
  exact ⟨f (loHalf w₀) (hiHalf w₁) (loHalf w₁) (loHalf w₂), by
    rw [henc, head_of_mask_half hhead, hiHalf_append_loHalf, append_loHalf_of_hiHalf (hiHalf_of_masked hlen)]⟩

end

theorem exists_encode_of_oneWordRow {r : FormatRow} {d : List Word} (hr : r ∈ oneWordRows) (h : r.Takes d) :
    ∃ i, encode i = d := by
  simp only [oneWordRows, List.mem_cons, List.not_mem_nil, or_false] at hr
  obtain rfl | rfl | rfl | rfl | rfl | rfl | rfl | rfl | rfl | rfl | rfl | rfl | rfl | rfl | rfl | rfl := hr
  · exact exists_encode_of_takesF0 (i := .csAssert) rfl h
  · exact exists_encode_of_takesF0 (i := .csIdle) rfl h
  · exact exists_encode_of_takesF0 (i := .cdCommand) rfl h
  · exact exists_encode_of_takesF0 (i := .cdData) rfl h
  · exact exists_encode_of_takesF0 (i := .wrStrobe) rfl h
  · exact exists_encode_of_takesFB (f := .writeByte) (fun _ => rfl) h
  · exact exists_encode_of_takesF0 (i := .readByte) rfl h
  · exact exists_encode_of_takesF0 (i := .setDirWrite) rfl h
  · exact exists_encode_of_takesF0 (i := .setDirRead) rfl h
  · exact exists_encode_of_takesFA (f := .writeCommand) (fun _ => rfl) h
  · exact exists_encode_of_takesFA (f := .readReg16) (fun _ => rfl) h
  · exact exists_encode_of_takesFA (f := .readReg32) (fun _ => rfl) h
  · exact exists_encode_of_takesF0 (i := .reset) rfl h
  · exact exists_encode_of_takesF0 (i := .readId) rfl h
  · exact exists_encode_of_takesFA (f := .spawn) (fun _ => rfl) h
  · exact exists_encode_of_takesF0 (i := .beginInit) rfl h

theorem exists_encode_of_twoWordRow {r : FormatRow} {d : List Word} (hr : r ∈ twoWordRows) (h : r.Takes d) :
    ∃ i, encode i = d := by
  simp only [twoWordRows, List.mem_cons, List.not_mem_nil, or_false] at hr
  obtain rfl | rfl | rfl | rfl | rfl | rfl | rfl := hr
  · exact exists_encode_of_takesFR (f := .writeReg8) (by decide) (fun _ _ => rfl) h
  · exact exists_encode_of_takesFR (f := .writeReg16) (by decide) (fun _ _ => rfl) h
  · exact exists_encode_of_takesFR (f := .writeReg24) (by decide) (fun _ _ => rfl) h
  · exact exists_encode_of_takesTwo (f := .writeReg32) (fun _ _ => rfl) h
  · exact exists_encode_of_takesTwo encode_writeRegPair_halves h
  · exact exists_encode_of_takesTwo (f := .flood) (fun _ _ => rfl) h
  · exact exists_encode_of_takesTwo encode_drawPixel_halves h

theorem exists_encode_of_longRow {r : FormatRow} {d : List Word} (hr : r ∈ longRows) (h : r.Takes d) :
    ∃ i, encode i = d := by
  simp only [longRows, List.mem_cons, List.not_mem_nil, or_false] at hr
  obtain rfl | rfl | rfl | rfl | rfl | rfl := hr
  · exact exists_encode_of_takesFW (f := .setAddrWindow) (fun _ _ _ _ => rfl) h
  · exact exists_encode_of_takesFS (f := .pushColors) (fun _ _ _ => rfl) h
  · exact exists_encode_of_takesFQ (f := .fillRect) (fun _ _ _ _ _ => rfl) h
  · exact exists_encode_of_takesFL (f := .drawFastHLine) (fun _ _ _ _ => rfl) h
  · exact exists_encode_of_takesFL (f := .drawFastVLine) (fun _ _ _ _ => rfl) h
  · exact exists_encode_of_takesFM (f := .drawBitmap) (fun _ _ _ _ _ => rfl) h

theorem exists_encode_of_wellFormed {d : List Word} (h : wellFormed d = true) : ∃ i, encode i = d := by
  obtain ⟨r, hr, htakes⟩ := (wellFormed_iff d).1 h
  simp only [formatRows, List.mem_append] at hr
  obtain (hone | htwo) | hlong := hr
  · exact exists_encode_of_oneWordRow hone htakes
  · exact exists_encode_of_twoWordRow htwo htakes
  · exact exists_encode_of_longRow hlong htakes

open Laws in
theorem wellFormed_encode (i : Instr) : wellFormed (encode i) = true := by
  cases i with
  | csAssert => exact EncodedWellFormed.csAssert
  | csIdle => exact EncodedWellFormed.csIdle
  | cdCommand => exact EncodedWellFormed.cdCommand
  | cdData => exact EncodedWellFormed.cdData
  | wrStrobe => exact EncodedWellFormed.wrStrobe
  | writeByte v => exact EncodedWellFormed.writeByte v
  | readByte => exact EncodedWellFormed.readByte
  | setDirWrite => exact EncodedWellFormed.setDirWrite
  | setDirRead => exact EncodedWellFormed.setDirRead
  | writeCommand cmd => exact EncodedWellFormed.writeCommand cmd
  | writeReg8 addr data => exact EncodedWellFormed.writeReg8 addr data
  | writeReg16 addr data => exact EncodedWellFormed.writeReg16 addr data
  | writeReg24 addr data => exact EncodedWellFormed.writeReg24 addr data
  | writeReg32 addr data => exact EncodedWellFormed.writeReg32 addr data
  | writeRegPair addrHigh addrLow data => exact EncodedWellFormed.writeRegPair addrHigh addrLow data
  | readReg16 addr => exact EncodedWellFormed.readReg16 addr
  | readReg32 addr => exact EncodedWellFormed.readReg32 addr
  | reset => exact EncodedWellFormed.reset
  | readId => exact EncodedWellFormed.readId
  | spawn id => exact EncodedWellFormed.spawn id
  | beginInit => exact EncodedWellFormed.beginInit
  | setAddrWindow x1 y1 x2 y2 => exact EncodedWellFormed.setAddrWindow x1 y1 x2 y2
  | flood color count => exact EncodedWellFormed.flood color count
  | pushColors first count base => exact EncodedWellFormed.pushColors first count base
  | drawBitmap x y w h base => exact EncodedWellFormed.drawBitmap x y w h base
  | drawPixel color x y => exact EncodedWellFormed.drawPixel color x y
  | fillRect color x y w h => exact EncodedWellFormed.fillRect color x y w h
  | drawFastHLine color x y len => exact EncodedWellFormed.drawFastHLine color x y len
  | drawFastVLine color x y len => exact EncodedWellFormed.drawFastVLine color x y len

/-- Settles O57: what decodes is an encoding, and a row of the table takes exactly the encodings. -/
theorem decoderAcceptsExactlyTheFormats : Obligations.DecoderAcceptsExactlyTheFormats := by
  unfold Obligations.DecoderAcceptsExactlyTheFormats
  intro d
  constructor
  · rintro ⟨i, hdecode⟩
    rw [← encode_of_decode hdecode]
    exact wellFormed_encode i
  · intro hwf
    obtain ⟨i, rfl⟩ := exists_encode_of_wellFormed hwf
    exact ⟨i, decode_encode i⟩

/-- Settles O58: closed descriptors, which the decoder evaluates. -/
theorem sampleDescriptorsDecodeAsWritten : Obligations.SampleDescriptorsDecodeAsWritten := by
  unfold Obligations.SampleDescriptorsDecodeAsWritten
  decide

end Sys2Proof
end

section
/-! PROOF. What the frames of spec/30_encoding.md R60 to R63 put on the bus, and that the register operations and
PUSH_COLORS put exactly these items on it. A frame is a command part or a bare chip select, then bytes in data mode,
then END; the scan of R10 reads each part from the view that the parts before it leave. -/

namespace Sys2Proof.Machine

/-! ### Parts of a frame -/

theorem viewAfter_commandEvents (v : BusView) (cmd : Half) :
    viewAfter v (commandEvents cmd) = ⟨some 0, some cdCommand, v.dir, some (cmd.extractLsb' 0 8), .off⟩ := rfl

theorem bytesFrom_commandEvents {v : BusView} (hdir : v.dir = some .write) (cmd : Half) :
    bytesFrom v (commandEvents cmd) = commandItems cmd := by
  simp [commandEvents, wbEvents, bytesFrom_cons, itemsOf, viewStep, hdir, commandItems]

/-- Bytes written in data mode, then END. -/
theorem bytesFrom_written_end (dout : Option Byte) (pulse : Pulse) (bs : List Byte) :
    bytesFrom ⟨some 0, some cdData, some .write, dout, pulse⟩ (bs.flatMap wbEvents ++ [.cs 1])
      = dataItems bs ++ [.frameEnd] := by
  induction bs generalizing dout pulse with
  | nil => rfl
  | cons b bs ih => exact congrArg (BusItem.w (some cdData) (some b) :: ·) (ih (some b) .off)

/-- Bytes read in data mode, then END and the pins taken back. -/
theorem bytesFrom_read_end (dir : Option Dir) (dout : Option Byte) (pulse : Pulse) (bs : List Byte) :
    bytesFrom ⟨some 0, some cdData, dir, dout, pulse⟩ (bs.flatMap rbEvents ++ [.cs 1, .dir .write])
      = bs.map (.rd (some cdData)) ++ [.frameEnd] := by
  induction bs generalizing pulse with
  | nil => rfl
  | cons b bs ih => exact congrArg (BusItem.rd (some cdData) b :: ·) (ih .off)

/-! ### Whole frames (R61 to R63) -/

/-- A pixel stream is its pixels' bytes. -/
theorem flatMap_pixelEvents (ps : List Pixel) :
    ps.flatMap pixelEvents = (ps.flatMap bytesOf16).flatMap wbEvents := by
  rw [List.flatMap_assoc]
  rfl

theorem pixelItems_eq (ps : List Pixel) : pixelItems ps = dataItems (ps.flatMap bytesOf16) := by
  rw [dataItems, List.map_flatMap]
  rfl

section
variable {v : BusView} (hdir : v.dir = some .write)
include hdir

/-- A command part, then what the scan makes of the rest from the view after it. -/
theorem bytesFrom_command_append (cmd : Half) (ev : List Event) :
    bytesFrom v (commandEvents cmd ++ ev) =
      commandItems cmd ++ bytesFrom ⟨some 0, some cdCommand, some .write, some (cmd.extractLsb' 0 8), .off⟩ ev := by
  rw [bytesFrom_append, bytesFrom_commandEvents hdir, viewAfter_commandEvents, hdir]

theorem bytesFrom_writeFrame (addr : Half) (bs : List Byte) :
    bytesFrom v (writeFrame addr bs) = commandItems addr ++ dataItems bs ++ [.frameEnd] := by
  simp only [writeFrame, List.append_assoc, bytesFrom_command_append hdir]
  exact congrArg _ (bytesFrom_written_end _ _ bs)

theorem bytesFrom_readFrame (addr : Half) (bs : List Byte) :
    bytesFrom v (readFrame addr bs) = commandItems addr ++ bs.map (.rd (some cdData)) ++ [.frameEnd] := by
  simp only [readFrame, List.append_assoc, bytesFrom_command_append hdir]
  exact congrArg _ (bytesFrom_read_end _ _ _ bs)

theorem bytesFrom_streamFrame (gw : Half) (ps : List Pixel) :
    bytesFrom v (streamFrame (some gw) ps) = commandItems gw ++ pixelItems ps ++ [.frameEnd] := by
  simp only [streamFrame, flatMap_pixelEvents, pixelItems_eq, List.append_assoc, bytesFrom_command_append hdir]
  exact congrArg _ (bytesFrom_written_end _ _ _)

theorem bytesFrom_streamFrame_none (ps : List Pixel) :
    bytesFrom v (streamFrame none ps) = pixelItems ps ++ [.frameEnd] := by
  obtain ⟨cs, cd, dir, dout, pulse⟩ := v
  obtain rfl : dir = some .write := hdir
  simp only [streamFrame, flatMap_pixelEvents, pixelItems_eq, List.append_assoc]
  exact bytesFrom_written_end _ _ _

end

theorem viewAfter_flatMap_wbEvents_dir (v : BusView) (bs : List Byte) :
    (viewAfter v (bs.flatMap wbEvents)).dir = v.dir := by
  induction bs generalizing v with
  | nil => rfl
  | cons b bs ih => exact ih { v with dout := some b, pulse := .off }

theorem viewAfter_writeFrame_dir (v : BusView) (addr : Half) (bs : List Byte) :
    (viewAfter v (writeFrame addr bs)).dir = v.dir := by
  simp only [writeFrame, viewAfter_append]
  exact viewAfter_flatMap_wbEvents_dir _ bs

theorem viewAfter_writeFrame_cs (v : BusView) (addr : Half) (bs : List Byte) :
    (viewAfter v (writeFrame addr bs)).cs = some 1 := by
  rw [writeFrame, viewAfter_append]
  rfl

theorem viewAfter_readFrame_dir (v : BusView) (addr : Half) (bs : List Byte) :
    (viewAfter v (readFrame addr bs)).dir = some .write := by
  rw [readFrame, viewAfter_append]
  rfl

/-! ### Register operations (R96 to R103) -/

/-- The bytes that a register read assembles, the first one on top (R105). -/
theorem assemble_two (b₀ b₁ : Byte) : assemble 16 [b₀, b₁] = b₀ ++ b₁ := by
  simp [assemble, ← BitVec.setWidth_append_eq_shiftLeft_setWidth_or]

theorem assemble_four (b₀ b₁ b₂ b₃ : Byte) : assemble 32 [b₀, b₁, b₂, b₃] = b₀ ++ b₁ ++ b₂ ++ b₃ := by
  simp [assemble, ← BitVec.setWidth_append_eq_shiftLeft_setWidth_or]

section
variable {s : State} (hadmitted : registerAdmitted s)
include hadmitted

theorem viewOf_dir_of_registerAdmitted : (viewOf s).dir = some .write := by
  obtain ⟨-, -, hdir⟩ := hadmitted
  exact hdir

/-- An admitted register operation puts on the bus what its body's events do. -/
theorem putsOnBus_of_body {i : Instr} {body : State → State} {ev : List Event} {items : List BusItem}
    (hexec : exec i s = perform registerNeeds body s) (hbody : ∀ u, body u = afterEvents u ev)
    (hitems : bytesFrom (viewOf s) ev = items) : putsOnBus i s items := by
  refine ⟨body (clearResult s), ev, ?_, ?_, hitems⟩
  · rw [hexec, perform_of_met ((registerNeeds_met_iff s).2 hadmitted)]
  · rw [hbody]
    rfl

theorem putsOnBus_of_writeRegBody {i : Instr} {addr : Half} {data : List Byte}
    (hexec : exec i s = perform registerNeeds (writeRegBody addr data) s) :
    putsOnBus i s (commandItems addr ++ dataItems data ++ [.frameEnd]) :=
  putsOnBus_of_body hadmitted hexec (writeRegBody_after addr data)
    (bytesFrom_writeFrame (viewOf_dir_of_registerAdmitted hadmitted) addr data)

theorem putsOnBus_writeRegPair (addr aLow d : Half) :
    putsOnBus (.writeRegPair addr aLow d) s
      (commandItems addr ++ dataItems [d.extractLsb' 8 8] ++ [.frameEnd]
        ++ commandItems aLow ++ dataItems [d.extractLsb' 0 8] ++ [.frameEnd]) := by
  have hdir := viewOf_dir_of_registerAdmitted hadmitted
  refine putsOnBus_of_body hadmitted rfl (writePairBody_after addr aLow d) ?_
  rw [bytesFrom_append, bytesFrom_writeFrame hdir, bytesFrom_writeFrame ((viewAfter_writeFrame_dir _ _ _).trans hdir)]
  simp only [List.append_assoc]

/-- READ_REG16 sees some two bytes in its frame and returns them. -/
theorem exec_readReg16_of_admitted (addr : Half) :
    ∃ b₀ b₁ t, exec (.readReg16 addr) s = .next t ∧ t.trace = s.trace ++ readFrame addr [b₀, b₁] ∧
      t.result = some ((b₀ ++ b₁).setWidth 32) := by
  obtain ⟨seen, hlen, hread⟩ := readRegBody_after Config.board addr 2 (clearResult s) (by decide)
  obtain ⟨b₀, b₁, rfl⟩ := List.length_eq_two.1 hlen
  refine ⟨b₀, b₁, _, perform_of_met ((registerNeeds_met_iff s).2 hadmitted), ?_, ?_⟩
  · simp only [readReg16Returning, readReg16Body, hread]
    rfl
  · simp only [readReg16Returning, readReg16Body, hread, assemble_two]
    rfl

/-- READ_REG32 sees some four bytes in its frame and returns them. -/
theorem exec_readReg32_of_admitted (addr : Half) :
    ∃ b₀ b₁ b₂ b₃ t, exec (.readReg32 addr) s = .next t ∧
      t.trace = s.trace ++ readFrame addr [b₀, b₁, b₂, b₃] ∧ t.result = some (b₀ ++ b₁ ++ b₂ ++ b₃) := by
  obtain ⟨seen, hlen, hread⟩ := readRegBody_after Config.board addr 4 (clearResult s) (by decide)
  obtain ⟨b₀, b₁, b₂, b₃, rfl⟩ : ∃ b₀ b₁ b₂ b₃, seen = [b₀, b₁, b₂, b₃] := by
    match seen, hlen with
    | [b₀, b₁, b₂, b₃], _ => exact ⟨b₀, b₁, b₂, b₃, rfl⟩
  refine ⟨b₀, b₁, b₂, b₃, _, perform_of_met ((registerNeeds_met_iff s).2 hadmitted), ?_, ?_⟩
  · simp only [readReg32Returning, readReg32Body, hread]
    rfl
  · simp only [readReg32Returning, readReg32Body, hread, assemble_four]
    rfl

end

/-- Settles O13: the frames' items, and each register operation's body runs its frame. -/
theorem registerFramesOnTheBus : Obligations.RegisterFramesOnTheBus := by
  unfold Obligations.RegisterFramesOnTheBus
  refine ⟨fun v addr bs hdir => ⟨bytesFrom_writeFrame hdir addr bs, bytesFrom_readFrame hdir addr bs,
    viewAfter_writeFrame_cs v addr bs, viewAfter_readFrame_dir v addr bs⟩, fun s addr hadmitted => ?_⟩
  have hdir := viewOf_dir_of_registerAdmitted hadmitted
  refine ⟨putsOnBus_of_body hadmitted rfl (commandBody_after addr) (bytesFrom_commandEvents hdir addr),
    fun d => putsOnBus_of_writeRegBody hadmitted rfl, fun d => putsOnBus_of_writeRegBody hadmitted rfl,
    fun d => putsOnBus_of_writeRegBody hadmitted rfl, fun d => putsOnBus_of_writeRegBody hadmitted rfl,
    putsOnBus_writeRegPair hadmitted addr, ?_, ?_⟩
  · obtain ⟨b₀, b₁, t, hexec, htrace, hresult⟩ := exec_readReg16_of_admitted hadmitted addr
    have hitems := bytesFrom_readFrame hdir addr [b₀, b₁]
    exact ⟨b₀, b₁, ⟨t, _, hexec, htrace, hitems⟩, t, hexec, hresult⟩
  · obtain ⟨b₀, b₁, b₂, b₃, t, hexec, htrace, hresult⟩ := exec_readReg32_of_admitted hadmitted addr
    have hitems := bytesFrom_readFrame hdir addr [b₀, b₁, b₂, b₃]
    exact ⟨b₀, b₁, b₂, b₃, ⟨t, _, hexec, htrace, hitems⟩, t, hexec, hresult⟩

/-! ### PUSH_COLORS (R134) -/

/-- Cells that hold values are read as those, in order. -/
theorem readMany_of_cells {m : Memory} {base n : Nat} {px : Nat → Pixel}
    (h : ∀ k, k < n → Memory.read m (base + k) = some (px k)) :
    Memory.readMany m base n = some ((List.range n).map px) := by
  obtain ⟨ps, hps⟩ := Option.isSome_iff_exists.1
    ((readMany_isSome_iff m base n).2 fun k hk => by rw [h k hk]; rfl)
  obtain ⟨hlen, hcells⟩ := readMany_spec hps
  rw [hps, Option.some_inj]
  refine List.ext_getElem (by simp [hlen]) fun k hk _ => ?_
  have hcell := (hcells k (hlen ▸ hk)).symm.trans (h k (hlen ▸ hk))
  simpa [List.getElem?_eq_getElem hk] using hcell

theorem withCells_of_readMany {base n : Nat} {s : State} {k : List Pixel → Result} {ps : List Pixel}
    (hrange : base + n ≤ 2 ^ 32) (hcells : Memory.readMany s.buf base n = some ps) :
    withCells base n s k = k ps := by
  rw [withCells, if_pos hrange, hcells]

/-- Where R130 holds and the cells hold values, PUSH_COLORS sends them in one stream. -/
theorem exec_pushColors_of_admitted {κ : Kind} {s : State} {first : Bool} {count base : Word} {px : Nat → Pixel}
    (hadmitted : variantAdmitted κ s) (hrange : base.toNat + count.toNat ≤ 2 ^ 32)
    (hcells : ∀ k, k < count.toNat → Memory.read s.buf (base.toNat + k) = some (px k)) :
    exec (.pushColors first count base) s = .next (afterEvents (clearResult s)
      (streamFrame (if first then some (Config.board.variant κ).gramWrite else none)
        ((List.range count.toNat).map px))) := by
  have hread : Memory.readMany (clearResult s).buf base.toNat count.toNat = _ := readMany_of_cells hcells
  simp only [exec, execPushColors, pushColorsOn]
  rw [performVariant_of_admitted hadmitted, withCells_of_readMany hrange hread, pushBody_after]

/-- Settles O14: the stream's items, and PUSH_COLORS runs the stream of the cells it reads. -/
theorem pixelStreamFramesOnTheBus : Obligations.PixelStreamFramesOnTheBus := by
  unfold Obligations.PixelStreamFramesOnTheBus
  refine ⟨fun v gw ps hdir => ⟨bytesFrom_streamFrame hdir gw ps, bytesFrom_streamFrame_none hdir ps⟩, ?_⟩
  intro s κ count base px hadmitted hrange hcells
  have hdir : (viewOf s).dir = some .write := by
    obtain ⟨-, -, -, hdir⟩ := hadmitted
    exact hdir
  exact ⟨⟨_, _, exec_pushColors_of_admitted hadmitted hrange hcells, rfl, bytesFrom_streamFrame hdir _ _⟩,
    ⟨_, _, exec_pushColors_of_admitted hadmitted hrange hcells, rfl, bytesFrom_streamFrame_none hdir _⟩⟩

end Sys2Proof.Machine
end

section
/-! PROOF. Which operations return a word (spec/30_encoding.md R67, R68). Every operation starts from a cleared result
port; events leave the port alone, and only READ_BYTE, the two register reads, READ_ID and SPAWN end by writing it. -/

namespace Sys2Proof.Machine

/-! ### Bodies that leave the result port alone -/

theorem result_of_eq_afterEvents {s t : State} {ev : List Event} (h : t = afterEvents s ev) :
    t.result = s.result := by
  rw [h, afterEvents_result]

theorem resetBody_result (cfg : Config) (s : State) : (resetBody cfg s).result = s.result := by
  obtain ⟨trace, hreset⟩ := resetBody_eq cfg s
  rw [hreset]

theorem floodBody_result (cfg : Config) (v : VariantRecord) (color : Pixel) (count : Nat) (s : State) :
    (floodBody cfg v color count s).result = s.result := by
  rw [← floodBody_pred_succ]
  exact result_of_eq_afterEvents (floodBody_after cfg v color (Nat.succ_pos _) s)

theorem setWindow_result (v : VariantRecord) (x1 y1 x2 y2 : Int) (s : State) :
    (setWindow v x1 y1 x2 y2 s).result = s.result :=
  result_of_eq_afterEvents (playOps_after _ s)

theorem bitmapBody_result (cfg : Config) (v : VariantRecord) (x y w h : Int) (ps : List Pixel) (s : State) :
    (bitmapBody cfg v x y w h ps s).result = s.result := by
  unfold bitmapBody
  split
  · exact (result_of_eq_afterEvents (pushBody_after v true ps _)).trans (setWindow_result v _ _ _ _ s)
  · obtain ⟨ev, hrows⟩ := bitmapRows_after cfg v x w.toNat h.toNat y ps s
    exact result_of_eq_afterEvents hrows

theorem fillBody_result (cfg : Config) (v : VariantRecord) (color : Pixel) (x y w h : Int) (s : State) :
    (fillBody cfg v color x y w h s).result = s.result := by
  unfold fillBody
  split
  · exact (floodBody_result ..).trans (setWindow_result ..)
  · rfl

theorem hlineBody_result (cfg : Config) (v : VariantRecord) (color : Pixel) (x y len : Int) (s : State) :
    (hlineBody cfg v color x y len s).result = s.result := by
  unfold hlineBody
  split
  · exact (floodBody_result ..).trans (setWindow_result ..)
  · rfl

theorem vlineBody_result (cfg : Config) (v : VariantRecord) (color : Pixel) (x y len : Int) (s : State) :
    (vlineBody cfg v color x y len s).result = s.result := by
  unfold vlineBody
  split
  · exact (floodBody_result ..).trans (setWindow_result ..)
  · rfl

/-! ### Operations -/

theorem perform_result_none {reqs : List Requirement} {body : State → State} {s t : State}
    (hbody : ∀ u, (body u).result = u.result) (h : perform reqs body s = .next t) : t.result = none := by
  obtain ⟨-, rfl⟩ := perform_next h
  exact hbody (clearResult s)

/-- The same for a body that is a run of events. -/
theorem perform_events_result_none {reqs : List Requirement} {body : State → State} {ev : List Event} {s t : State}
    (hbody : ∀ u, body u = afterEvents u ev) (h : perform reqs body s = .next t) : t.result = none :=
  perform_result_none (fun u => result_of_eq_afterEvents (hbody u)) h

theorem perform_result_ne_none {reqs : List Requirement} {body : State → State} {s t : State}
    (hbody : ∀ u, (body u).result ≠ none) (h : perform reqs body s = .next t) : t.result ≠ none := by
  obtain ⟨-, rfl⟩ := perform_next h
  exact hbody (clearResult s)

theorem performVariant_result_none {cfg : Config} {k : VariantRecord → State → Result} {s t : State}
    (hk : ∀ v u w, k v u = .next w → w.result = u.result) (h : performVariant cfg k s = .next t) :
    t.result = none := by
  obtain ⟨κ, -, hbody⟩ := performVariant_next_admitted h
  exact hk _ _ _ hbody

/-- A variant operation that completes wherever it is admitted. -/
theorem performVariant_next_result_none {cfg : Config} {body : VariantRecord → State → State} {s t : State}
    (hbody : ∀ v u, (body v u).result = u.result)
    (h : performVariant cfg (fun v u => .next (body v u)) s = .next t) : t.result = none := by
  refine performVariant_result_none (fun v u w hw => ?_) h
  cases hw
  exact hbody v u

theorem floodOn_result_none {cfg : Config} {color : Pixel} {count : Word} {s t : State}
    (h : floodOn cfg color count s = .next t) : t.result = none := by
  refine performVariant_result_none (fun v u w hflood => ?_) h
  split at hflood
  · cases hflood
  · cases hflood
    exact floodBody_result cfg v color _ u

theorem pushColorsOn_result_none {cfg : Config} {first : Bool} {count base : Word} {s t : State}
    (h : pushColorsOn cfg first count base s = .next t) : t.result = none := by
  refine performVariant_result_none (fun v u w hcells => ?_) h
  obtain ⟨-, ps, -, hpush⟩ := withCells_next hcells
  cases hpush
  exact result_of_eq_afterEvents (pushBody_after v first ps u)

theorem drawBitmapOn_result_none {cfg : Config} {x y w h : Half} {base : Word} {s t : State}
    (hexec : drawBitmapOn cfg x y w h base s = .next t) : t.result = none := by
  refine performVariant_result_none (fun v u u' hbitmap => ?_) hexec
  split at hbitmap
  · cases hbitmap
    rfl
  · obtain ⟨-, ps, -, hdraw⟩ := withCells_next hbitmap
    cases hdraw
    exact bitmapBody_result cfg v _ _ _ _ ps u

/-- BEGIN and the BlitEngine operations return no word. -/
theorem exec_variant_result_none {i : Instr} {s t : State} (hclass : admissionClass i = .variant)
    (h : exec i s = .next t) : t.result = none := by
  cases i with
  | beginInit =>
    exact performVariant_next_result_none (fun v u => result_of_eq_afterEvents (playOps_after v.initSeq u)) h
  | setAddrWindow =>
    exact performVariant_next_result_none (fun v u => result_of_eq_afterEvents (windowBody_after v _ _ _ _ u)) h
  | flood => exact floodOn_result_none h
  | pushColors => exact pushColorsOn_result_none h
  | drawBitmap => exact drawBitmapOn_result_none h
  | drawPixel color =>
    exact performVariant_next_result_none
      (fun v u => result_of_eq_afterEvents (pixelBody_after _ v color _ _ u)) h
  | fillRect color => exact performVariant_next_result_none (fun v => fillBody_result _ v color _ _ _ _) h
  | drawFastHLine color => exact performVariant_next_result_none (fun v => hlineBody_result _ v color _ _ _) h
  | drawFastVLine color => exact performVariant_next_result_none (fun v => vlineBody_result _ v color _ _ _) h
  | _ => cases hclass

/-- Settles O43: the five end by writing the result port, every other operation leaves it cleared. -/
theorem exactlyFiveOperationsReturnAWord : Obligations.ExactlyFiveOperationsReturnAWord := by
  unfold Obligations.ExactlyFiveOperationsReturnAWord
  intro i s t h
  cases i with
  | readByte | readReg16 | readReg32 | readId =>
    have hresult : t.result ≠ none := perform_result_ne_none (fun _ => Option.some_ne_none _) h
    simpa using hresult
  | spawn id =>
    obtain ⟨-, kind, word, rfl⟩ := exec_spawn_next h
    simp
  | reset => simp [perform_result_none (resetBody_result _) h]
  | csAssert | csIdle => simp [perform_events_result_none (driveCs_after _) h]
  | cdCommand | cdData => simp [perform_events_result_none (driveCd_after _) h]
  | wrStrobe => simp [perform_events_result_none strobeWrite_after h]
  | writeByte v => simp [perform_events_result_none (sendByte_after v) h]
  | setDirWrite | setDirRead => simp [perform_events_result_none (setDir_after _) h]
  | writeCommand cmd => simp [perform_events_result_none (commandBody_after cmd) h]
  | writeReg8 | writeReg16 | writeReg24 | writeReg32 =>
    simp [perform_events_result_none (writeRegBody_after _ _) h]
  | writeRegPair => simp [perform_events_result_none (writePairBody_after _ _ _) h]
  | beginInit | setAddrWindow | flood | pushColors | drawBitmap | drawPixel | fillRect | drawFastHLine
  | drawFastVLine => simp [exec_variant_result_none rfl h]

end Sys2Proof.Machine
end

section
/-! PROOF. The nine BusSignal operations (spec/40_bus_signal.md R81 to R89). In a state that R80 admits, an operation is
decided by the further requirements of its own rule, in their order; where these are met it is its body, whose effect
Laws/Ops.lean gives. The scan of R10 finds one item in a strobe where the panel is selected, else none. -/

namespace Sys2Proof.Machine

/-! ### Admission (R80, R85 to R87, R154, R155) -/

/-- Requirements that are met are passed over. -/
theorem admitting_append_of_met {met : List Requirement} {s : State} (hmet : ∀ r ∈ met, r s = none)
    (more : List Requirement) (k : State → Result) : admitting (met ++ more) s k = admitting more s k := by
  induction met with
  | nil => rfl
  | cons r rest ih =>
    obtain ⟨hr, hrest⟩ := List.forall_mem_cons.1 hmet
    rw [List.cons_append, admitting_cons, hr]
    exact ih hrest

theorem perform_cons_of_unmet {r : Requirement} {rest : List Requirement} {body : State → State} {s : State}
    {why : Refusal} (hr : r s = some why) : perform (r :: rest) body s = .refused why := by
  rw [perform, admitting_cons, hr]

theorem perform_cons_of_met {r : Requirement} {rest : List Requirement} {body : State → State} {s : State}
    (hr : r s = none) : perform (r :: rest) body s = perform rest body s := by
  rw [perform, admitting_cons, hr]
  rfl

theorem perform_nil (body : State → State) (s : State) : perform [] body s = .next (body (clearResult s)) := rfl

theorem needDir_unmet {d : Dir} {s : State} (hdir : s.dir ≠ some d) : needDir d s = some .wrongDirection :=
  if_neg hdir

theorem needDout_unmet {s : State} (hdout : s.dout = none) : needDout s = some .doutUndefined := if_pos hdout

theorem needDout_met {s : State} (hdout : s.dout ≠ none) : needDout s = none := if_neg hdout

section
variable {s : State} (hadmitted : busSignalAdmitted s)
include hadmitted

/-- What R80 leaves open is the operation's own requirements. -/
theorem perform_busSignal_append (more : List Requirement) (body : State → State) :
    perform (busSignalNeeds ++ more) body s = perform more body s :=
  admitting_append_of_met ((busSignalNeeds_met_iff s).2 hadmitted) more _

/-- CS_ASSERT, CS_IDLE, CD_COMMAND, CD_DATA, SET_DIR_WRITE and SET_DIR_READ ask for no more than R80. -/
theorem perform_busSignalNeeds (body : State → State) :
    perform busSignalNeeds body s = .next (body (clearResult s)) :=
  perform_of_met ((busSignalNeeds_met_iff s).2 hadmitted)

/-- WR_STROBE, WRITE_BYTE and READ_BYTE are refused in the other direction (R85 to R87). -/
theorem perform_wrongDirection {d : Dir} (hdir : s.dir ≠ some d) (more : List Requirement) (body : State → State) :
    perform (busSignalNeeds ++ needDir d :: more) body s = .refused .wrongDirection := by
  rw [perform_busSignal_append hadmitted, perform_cons_of_unmet (needDir_unmet hdir)]

/-- In the direction they ask for, these go on to what else they require. -/
theorem perform_rightDirection {d : Dir} (hdir : s.dir = some d) (more : List Requirement) (body : State → State) :
    perform (busSignalNeeds ++ needDir d :: more) body s = perform more body s := by
  rw [perform_busSignal_append hadmitted, perform_cons_of_met ((needDir_met_iff d s).2 hdir)]

end

/-! ### The items of a strobe (R10, R90) -/

/-- A write strobe puts the latched byte on a selected bus. -/
theorem bytesFrom_wsEvents {v : BusView} (hdir : v.dir = some .write) :
    bytesFrom v wsEvents = if v.cs = some 0 then [.w v.cd v.dout] else [] := by
  simp [wsEvents, bytesFrom_cons, itemsOf, viewStep, hdir]

/-- Loading a byte yields no item: the strobe after it finds the byte in the latch. -/
theorem bytesFrom_wbEvents (v : BusView) (b : Byte) :
    bytesFrom v (wbEvents b) = bytesFrom { v with dout := some b, pulse := .off } wsEvents := rfl

/-- A read strobe puts the sampled byte on a selected bus. -/
theorem bytesFrom_rbEvents (v : BusView) (b : Byte) :
    bytesFrom v (rbEvents b) = if v.cs = some 0 then [.rd v.cd b] else [] := by
  simp [rbEvents, bytesFrom_cons, itemsOf, viewStep]

/-- CS(1) ends the frame that is open, if one is (R82). -/
theorem bytesFrom_csIdle (v : BusView) : bytesFrom v [.cs 1] = if v.cs = some 0 then [.frameEnd] else [] := by
  simp [bytesFrom_cons, itemsOf]

/-! ### READ_BYTE's body -/

/-- READ_BYTE sees some byte and returns it; it changes RD, the result port and the trace only. -/
theorem readByteBody_eq (cfg : Config) (s : State) :
    ∃ v : Byte, readByteBody cfg s =
      { s with rd := some 1, result := some (v.setWidth 32), trace := s.trace ++ rbEvents v } :=
  ⟨_, by rw [readByteBody, recvByte_eq]; rfl⟩

/-! ### The obligations -/

/-- Settles O1: both run in every admitted state, and CS(0) yields no item. -/
theorem chipSelectPrimitivesDriveOnlyCs : Obligations.ChipSelectPrimitivesDriveOnlyCs := by
  unfold Obligations.ChipSelectPrimitivesDriveOnlyCs
  intro s hadmitted
  exact ⟨perform_busSignalNeeds hadmitted (driveCs 0), perform_busSignalNeeds hadmitted (driveCs 1), rfl,
    bytesFrom_csIdle (viewOf s)⟩

/-- Settles O2: both run in every admitted state. -/
theorem commandDataPrimitivesDriveOnlyCd : Obligations.CommandDataPrimitivesDriveOnlyCd := by
  unfold Obligations.CommandDataPrimitivesDriveOnlyCd
  intro s hadmitted
  exact ⟨perform_busSignalNeeds hadmitted (driveCd 0), perform_busSignalNeeds hadmitted (driveCd 1)⟩

/-- Settles O3: both run in every admitted state, whatever the direction. -/
theorem directionPrimitivesSwitchOnlyDir : Obligations.DirectionPrimitivesSwitchOnlyDir := by
  unfold Obligations.DirectionPrimitivesSwitchOnlyDir
  intro s hadmitted
  exact ⟨perform_busSignalNeeds hadmitted (setDir .write), perform_busSignalNeeds hadmitted (setDir .read)⟩

/-- Settles O4: the direction is asked for first, then the latch; with both the strobe runs. -/
theorem wrStrobePulsesWrAndKeepsDout : Obligations.WrStrobePulsesWrAndKeepsDout := by
  unfold Obligations.WrStrobePulsesWrAndKeepsDout
  intro s hadmitted
  have hexec : exec .wrStrobe s = perform (busSignalNeeds ++ [needDir .write, needDout]) strobeWrite s := rfl
  rw [hexec]
  refine ⟨fun hdir hdout => ?_, fun hdir => perform_wrongDirection hadmitted hdir _ _, fun hdir hdout => ?_,
    fun hdir => bytesFrom_wsEvents (v := viewOf s) hdir⟩
  · rw [perform_rightDirection hadmitted hdir, perform_cons_of_met (needDout_met hdout), perform_nil, strobeWrite_eq]
    rfl
  · rw [perform_rightDirection hadmitted hdir, perform_cons_of_unmet (needDout_unmet hdout)]

/-- Settles O5: the load changes the latch alone, so a byte that is there already leaves the bare strobe. -/
theorem writeByteLoadsThenStrobes : Obligations.WriteByteLoadsThenStrobes := by
  unfold Obligations.WriteByteLoadsThenStrobes
  intro s v hadmitted
  have hexec : exec (.writeByte v) s = perform (busSignalNeeds ++ [needDir .write]) (sendByte v) s := rfl
  have hload : bytesFrom (viewOf s) (wbEvents v) = bytesFrom { viewOf s with dout := some v } wsEvents :=
    bytesFrom_wbEvents (viewOf s) v
  rw [hexec]
  refine ⟨fun hdir => ?_, fun hdir => perform_wrongDirection hadmitted hdir _ _,
    fun hdir => hload.trans (bytesFrom_wsEvents hdir), fun hdout => hload.trans ?_⟩
  · rw [perform_rightDirection hadmitted hdir, perform_nil, sendByte_eq]
    rfl
  · rw [← hdout]
    rfl

/-- Settles O6: the byte is the one that `readByteBody_eq` names. -/
theorem readByteReturnsTheSampledByte : Obligations.ReadByteReturnsTheSampledByte := by
  unfold Obligations.ReadByteReturnsTheSampledByte
  intro s hadmitted
  have hexec : exec .readByte s =
    perform (busSignalNeeds ++ [needDir .read]) (readByteBody Config.board) s := rfl
  rw [hexec]
  refine ⟨fun hdir => ?_, fun hdir => perform_wrongDirection hadmitted hdir _ _⟩
  obtain ⟨v, hbody⟩ := readByteBody_eq Config.board (clearResult s)
  refine ⟨v, ?_, bytesFrom_rbEvents (viewOf s) v⟩
  rw [perform_rightDirection hadmitted hdir, perform_nil, hbody]
  rfl

end Sys2Proof.Machine
end

section
/-! PROOF. The eight RegisterProtocol operations (spec/41_register_protocol.md R95 to R105). In a state that R95 admits
an operation is its body, run from a cleared result port; Laws/Ops.lean gives what a command part, a write frame and a
read frame do to the whole state. A read returns the bytes of its frame assembled, the first one on top. -/

namespace Sys2Proof.Machine

/-! ### Splitting and assembling data (R44, R105) -/

theorem hiByte_append (hi lo : Byte) : hiByte (hi ++ lo) = hi := BitVec.extractLsb'_append_eq_left

theorem loByte_append (hi lo : Byte) : loByte (hi ++ lo) = lo := BitVec.extractLsb'_append_eq_right

theorem bytesOf16_append (b₀ b₁ : Byte) : bytesOf16 (b₀ ++ b₁) = [b₀, b₁] := by
  rw [bytesOf16, hiByte_append, loByte_append]

/-- A field above the lowest byte is one of what stands above that byte. -/
theorem extractLsb'_append_byte {n : Nat} (start : Nat) (top : BitVec n) (b : Byte) :
    (top ++ b).extractLsb' (start + 8) 8 = top.extractLsb' start 8 := by
  rw [BitVec.extractLsb'_append_eq_of_le (Nat.le_add_left 8 start), Nat.add_sub_cancel]

theorem bytesOf32_append (b₀ b₁ b₂ b₃ : Byte) : bytesOf32 (b₀ ++ b₁ ++ b₂ ++ b₃) = [b₀, b₁, b₂, b₃] := by
  have h₀ : (b₀ ++ b₁ ++ b₂ ++ b₃).extractLsb' 24 8 = b₀ :=
    calc (b₀ ++ b₁ ++ b₂ ++ b₃).extractLsb' 24 8
      _ = (b₀ ++ b₁ ++ b₂).extractLsb' 16 8 := extractLsb'_append_byte 16 _ _
      _ = (b₀ ++ b₁).extractLsb' 8 8 := extractLsb'_append_byte 8 _ _
      _ = b₀ := hiByte_append b₀ b₁
  have h₁ : (b₀ ++ b₁ ++ b₂ ++ b₃).extractLsb' 16 8 = b₁ :=
    calc (b₀ ++ b₁ ++ b₂ ++ b₃).extractLsb' 16 8
      _ = (b₀ ++ b₁ ++ b₂).extractLsb' 8 8 := extractLsb'_append_byte 8 _ _
      _ = (b₀ ++ b₁).extractLsb' 0 8 := extractLsb'_append_byte 0 _ _
      _ = b₁ := loByte_append b₀ b₁
  have h₂ : (b₀ ++ b₁ ++ b₂ ++ b₃).extractLsb' 8 8 = b₂ :=
    (extractLsb'_append_byte 0 _ _).trans BitVec.extractLsb'_append_eq_right
  have h₃ : (b₀ ++ b₁ ++ b₂ ++ b₃).extractLsb' 0 8 = b₃ := BitVec.extractLsb'_append_eq_right
  rw [bytesOf32, h₀, h₁, h₂, h₃]

theorem assemble_three (b₀ b₁ b₂ : Byte) : assemble 24 [b₀, b₁, b₂] = b₀ ++ b₁ ++ b₂ := by
  simp [assemble, ← BitVec.setWidth_append_eq_shiftLeft_setWidth_or]

theorem assemble_bytesOf16 (d : Half) : assemble 16 (bytesOf16 d) = d :=
  (assemble_two _ _).trans BitVec.extractLsb'_append_extractLsb'

theorem assemble_bytesOf24 (d : BitVec 24) : assemble 24 (bytesOf24 d) = d := by
  have htop : d.extractLsb' 16 8 ++ d.extractLsb' 8 8 = d.extractLsb' 8 16 :=
    BitVec.extractLsb'_append_extractLsb'_eq_extractLsb' (by decide)
  rw [bytesOf24, assemble_three, htop]
  exact BitVec.extractLsb'_append_extractLsb'

theorem assemble_bytesOf32 (d : Word) : assemble 32 (bytesOf32 d) = d := by
  have htop : d.extractLsb' 24 8 ++ d.extractLsb' 16 8 = d.extractLsb' 16 16 :=
    BitVec.extractLsb'_append_extractLsb'_eq_extractLsb' (by decide)
  have hthree : d.extractLsb' 16 16 ++ d.extractLsb' 8 8 = d.extractLsb' 8 24 :=
    BitVec.extractLsb'_append_extractLsb'_eq_extractLsb' (by decide)
  rw [bytesOf32, assemble_four, htop, hthree]
  exact BitVec.extractLsb'_append_extractLsb'

/-! ### Register reads (R102, R103) -/

/-- READ_REG16 sees some two bytes in its frame and returns them. -/
theorem readReg16Returning_eq (cfg : Config) (addr : Half) (s : State) :
    ∃ b₀ b₁ : Byte, readReg16Returning cfg addr s =
      { s with cs := some 1, cd := some cdData, wr := some 1, rd := some 1, dir := some .write,
               dout := some (addr.extractLsb' 0 8), result := some ((b₀ ++ b₁).setWidth 32),
               trace := s.trace ++ readFrame addr [b₀, b₁] } := by
  obtain ⟨seen, hlen, hread⟩ := readRegBody_eq cfg addr 2 s (by decide)
  obtain ⟨b₀, b₁, rfl⟩ := List.length_eq_two.1 hlen
  exact ⟨b₀, b₁, by simp only [readReg16Returning, readReg16Body, hread, assemble_two, returns]⟩

/-- READ_REG32 sees some four bytes in its frame and returns them. -/
theorem readReg32Returning_eq (cfg : Config) (addr : Half) (s : State) :
    ∃ b₀ b₁ b₂ b₃ : Byte, readReg32Returning cfg addr s =
      { s with cs := some 1, cd := some cdData, wr := some 1, rd := some 1, dir := some .write,
               dout := some (addr.extractLsb' 0 8), result := some (b₀ ++ b₁ ++ b₂ ++ b₃),
               trace := s.trace ++ readFrame addr [b₀, b₁, b₂, b₃] } := by
  obtain ⟨seen, hlen, hread⟩ := readRegBody_eq cfg addr 4 s (by decide)
  obtain ⟨b₀, b₁, b₂, b₃, rfl⟩ := List.length_eq_four.1 hlen
  exact ⟨b₀, b₁, b₂, b₃, by simp only [readReg32Returning, readReg32Body, hread, assemble_four, returns]⟩

/-! ### Admitted operations (R95) -/

section
variable {s : State} (hadmitted : registerAdmitted s)
include hadmitted

theorem perform_registerNeeds (body : State → State) :
    perform registerNeeds body s = .next (body (clearResult s)) :=
  perform_of_met ((registerNeeds_met_iff s).2 hadmitted)

/-- A register write sends its frame; DOUT ends as the last data byte. -/
theorem perform_writeRegBody (addr : Half) (data : List Byte) (hdata : data ≠ []) :
    perform registerNeeds (writeRegBody addr data) s =
      .next { s with cs := some 1, cd := some cdData, wr := some 1, dout := data.getLast?, result := none,
                     trace := s.trace ++ writeFrame addr data } := by
  rw [perform_registerNeeds hadmitted, writeRegBody_eq addr data _ hdata]
  rfl

end

/-! ### The obligations -/

/-- Settles O7: the body is the command part alone, and nothing ends the frame. -/
theorem writeCommandLeavesTheFrameOpen : Obligations.WriteCommandLeavesTheFrameOpen := by
  unfold Obligations.WriteCommandLeavesTheFrameOpen
  intro s cmd hadmitted
  have hexec : exec (.writeCommand cmd) s = perform registerNeeds (commandBody cmd) s := rfl
  rw [hexec, perform_registerNeeds hadmitted, commandBody_eq, commandEvents]
  simp only [List.append_assoc]
  rfl

/-- Settles O8: each is `writeRegBody` of its datum's bytes. -/
theorem registerWritesSendOneFrame : Obligations.RegisterWritesSendOneFrame := by
  unfold Obligations.RegisterWritesSendOneFrame
  intro s addr hadmitted
  exact ⟨fun d => perform_writeRegBody hadmitted addr [d] (List.cons_ne_nil _ _),
    fun d => perform_writeRegBody hadmitted addr (bytesOf16 d) (List.cons_ne_nil _ _),
    fun d => perform_writeRegBody hadmitted addr (bytesOf24 d) (List.cons_ne_nil _ _),
    fun d => perform_writeRegBody hadmitted addr (bytesOf32 d) (List.cons_ne_nil _ _)⟩

/-- Settles O9: the body is two register writes. -/
theorem writeRegPairSendsTwoFrames : Obligations.WriteRegPairSendsTwoFrames := by
  unfold Obligations.WriteRegPairSendsTwoFrames
  intro s aHigh aLow d hadmitted
  have hexec : exec (.writeRegPair aHigh aLow d) s = perform registerNeeds (writePairBody aHigh aLow d) s := rfl
  rw [hexec, perform_registerNeeds hadmitted, writePairBody_eq]
  rfl

/-- Settles O10: the bytes are the two that `readReg16Returning_eq` names. -/
theorem readReg16ReturnsTwoBytesMsbFirst : Obligations.ReadReg16ReturnsTwoBytesMsbFirst := by
  unfold Obligations.ReadReg16ReturnsTwoBytesMsbFirst
  intro s addr hadmitted
  have hexec : exec (.readReg16 addr) s = perform registerNeeds (readReg16Returning Config.board addr) s := rfl
  obtain ⟨b₀, b₁, hbody⟩ := readReg16Returning_eq Config.board addr (clearResult s)
  refine ⟨b₀, b₁, ?_⟩
  rw [hexec, perform_registerNeeds hadmitted, hbody]
  rfl

/-- Settles O11: the bytes are the four that `readReg32Returning_eq` names. -/
theorem readReg32ReturnsFourBytesMsbFirst : Obligations.ReadReg32ReturnsFourBytesMsbFirst := by
  unfold Obligations.ReadReg32ReturnsFourBytesMsbFirst
  intro s addr hadmitted
  have hexec : exec (.readReg32 addr) s = perform registerNeeds (readReg32Returning Config.board addr) s := rfl
  obtain ⟨b₀, b₁, b₂, b₃, hbody⟩ := readReg32Returning_eq Config.board addr (clearResult s)
  refine ⟨b₀, b₁, b₂, b₃, ?_⟩
  rw [hexec, perform_registerNeeds hadmitted, hbody]
  rfl

/-- Settles O12: assembled bytes stand side by side, and neighbouring fields of a datum join to it. -/
theorem assemblyIsMsbFirstAndInvertsSplitting : Obligations.AssemblyIsMsbFirstAndInvertsSplitting := by
  unfold Obligations.AssemblyIsMsbFirstAndInvertsSplitting
  exact ⟨fun b₀ b₁ => ⟨assemble_two b₀ b₁, bytesOf16_append b₀ b₁⟩,
    fun b₀ b₁ b₂ b₃ => ⟨assemble_four b₀ b₁ b₂ b₃, bytesOf32_append b₀ b₁ b₂ b₃⟩,
    assemble_bytesOf16, assemble_bytesOf24, assemble_bytesOf32⟩

end Sys2Proof.Machine
end

section
/-! PROOF. RESET, SPAWN and BEGIN (spec/42_detector.md R110 to R112, R120 to R123). RESET is admitted in every state and
runs one list of events, of which only a CS(1) that ends an open frame yields a bus item. SPAWN asks for PHASE and KIND
and writes what VARIANT_TABLE says of its operand. BEGIN plays a sequence, which runs its events. -/

namespace Sys2Proof.Machine

/-! ### RESET (R111, R112) -/

/-- RESET's events (R111): the control lines idle and the bus in write mode, then the pulse where a reset line is
wired. -/
def resetEvents (cfg : Config) : List Event :=
  [.cfg, .cs 1, .cd 1, .wr 1, .rd 1, .dir .write] ++
    (if cfg.hasResetPin then [.rst 1, .rst 0, .delay .resetLow, .rst 1, .delay .resetHigh] else [])

/-- `resetBody_eq`, with the trace named. -/
theorem resetBody_eq_resetEvents (cfg : Config) (s : State) :
    resetBody cfg s =
      { s with phase := .configured, dir := some .write, cs := some 1, cd := some 1, wr := some 1, rd := some 1,
               rst := (if cfg.hasResetPin then some 1 else s.rst), trace := s.trace ++ resetEvents cfg } := by
  cases hpin : cfg.hasResetPin with
  | true => simp [resetBody, resetEvents, hpin, pulseReset_eq, idlePins_eq]
  | false => simp [resetBody, resetEvents, hpin, idlePins_eq]

theorem exec_reset_eq_resetEvents (s : State) :
    exec .reset s =
      .next { s with phase := .configured, dir := some .write, cs := some 1, cd := some 1, wr := some 1,
                     rd := some 1, rst := (if Config.board.hasResetPin then some 1 else s.rst), result := none,
                     trace := s.trace ++ resetEvents Config.board } := by
  rw [exec_reset_eq, resetBody_eq_resetEvents]
  rfl

/-- After CS(1) no strobe of RESET falls and no byte is sampled, so all the scan can find is the end of a frame. -/
theorem bytesFrom_resetEvents (cfg : Config) (v : BusView) :
    bytesFrom v (resetEvents cfg) = if v.cs = some 0 then [.frameEnd] else [] := by
  have hrest (u : BusView) : bytesFrom { u with pulse := .off } ((resetEvents cfg).drop 2) = [] := by
    unfold resetEvents
    split <;> rfl
  have hsplit : resetEvents cfg = [.cfg] ++ ([.cs 1] ++ (resetEvents cfg).drop 2) := rfl
  rw [hsplit, bytesFrom_append, bytesFrom_append, bytesFrom_csIdle]
  exact (congrArg _ (hrest { v with cs := some 1 })).trans (List.append_nil _)

/-- Settles O15: `resetEvents` written out. -/
theorem resetIdlesThePinsAndConfigures : Obligations.ResetIdlesThePinsAndConfigures := by
  unfold Obligations.ResetIdlesThePinsAndConfigures
  intro s
  rw [exec_reset_eq_resetEvents, resetEvents, List.append_assoc]

/-- Settles O17: KIND and DOUT are not among the fields that RESET writes. -/
theorem resetSendsNothingOverTheBus : Obligations.ResetSendsNothingOverTheBus := by
  unfold Obligations.ResetSendsNothingOverTheBus
  intro s
  exact ⟨_, _, exec_reset_eq_resetEvents s, rfl, rfl, rfl, bytesFrom_resetEvents Config.board (viewOf s)⟩

/-! ### SPAWN (R120, R123) -/

/-- An ID without a Kind makes the panel Unsupported. -/
theorem spawnBody_of_noKind {cfg : Config} {id : Half} (hid : variantTable cfg id = none) (s : State) :
    spawnBody cfg id s = { s with kind := .unsupported, result := some 0 } := by
  rw [spawnBody, hid]
  rfl

/-- An ID with a Kind selects it. -/
theorem spawnBody_of_kind {cfg : Config} {id : Half} {k : Kind} (hid : variantTable cfg id = some k) (s : State) :
    spawnBody cfg id s = { s with kind := .known k, result := some (kindCode k) } := by
  rw [spawnBody, hid]
  rfl

section
variable {s : State} (hphase : s.phase = .configured)
include hphase

theorem exec_spawn_of_selected (hkind : s.kind ≠ .none) (id : Half) :
    exec (.spawn id) s = .refused .alreadySpawned := by
  have hexec : exec (.spawn id) s = perform [needConfigured, needUnspawned] (spawnBody Config.board id) s := rfl
  rw [hexec, perform_cons_of_met (if_pos hphase), perform_cons_of_unmet (if_neg hkind)]

variable (hkind : s.kind = .none)
include hkind

theorem exec_spawn_of_unselected (id : Half) :
    exec (.spawn id) s = .next (spawnBody Config.board id (clearResult s)) := by
  have hexec : exec (.spawn id) s = perform [needConfigured, needUnspawned] (spawnBody Config.board id) s := rfl
  rw [hexec, perform_cons_of_met (if_pos hphase), perform_cons_of_met (if_pos hkind), perform_nil]

theorem exec_spawn_of_noKind {id : Half} (hid : variantTable Config.board id = none) :
    exec (.spawn id) s = .next { s with kind := .unsupported, result := some 0 } := by
  rw [exec_spawn_of_unselected hphase hkind, spawnBody_of_noKind hid]
  rfl

theorem exec_spawn_of_kind {id : Half} {k : Kind} (hid : variantTable Config.board id = some k) :
    exec (.spawn id) s = .next { s with kind := .known k, result := some (kindCode k) } := by
  rw [exec_spawn_of_unselected hphase hkind, spawnBody_of_kind hid]
  rfl

end

/-- Settles O20: `variantTable` at the operand decides, and its five named rows are read off. -/
theorem spawnSelectsTheVariantOnce : Obligations.SpawnSelectsTheVariantOnce := by
  unfold Obligations.SpawnSelectsTheVariantOnce
  refine ⟨⟨rfl, rfl, rfl, rfl, rfl⟩, fun s hphase => ⟨fun hkind => ?_, exec_spawn_of_selected hphase⟩⟩
  have hnone {id : Half} := exec_spawn_of_noKind hphase hkind (id := id)
  have hsome {id : Half} {k : Kind} := exec_spawn_of_kind hphase hkind (id := id) (k := k)
  refine ⟨hsome rfl, hsome rfl, hnone rfl, ⟨_, hsome rfl⟩, ⟨_, hsome rfl⟩, fun id => ?_⟩
  cases hid : variantTable Config.board id with
  | none => exact .inl (hnone hid)
  | some k => exact .inr ⟨k, hsome hid⟩

/-! ### BEGIN (R121, R122) -/

/-- Settles O21: playing a sequence is running its events. -/
theorem beginPlaysTheInitSequence : Obligations.BeginPlaysTheInitSequence := by
  unfold Obligations.BeginPlaysTheInitSequence
  intro s κ hadmitted
  have hexec : exec .beginInit s = performVariant Config.board (fun v u => .next (playOps v.initSeq u)) s := rfl
  rw [hexec, performVariant_of_admitted hadmitted, playOps_after, afterEvents_clearResult]

end Sys2Proof.Machine
end

section
/-! PROOF. READ_ID (spec/42_detector.md R113 to R119). The status read by step 1 and the confirmation read by step 3
choose among four ways through the detection steps, and each step ends with a register read: so each leaves the lines
as a read frame does, and DOUT at the low byte of the register number it sent last. -/

namespace Sys2Proof.Machine

/-! ### The ways through the steps (R115 to R118) -/

section
variable {cfg : Config} {s : State}

/-- Step 2: the status names the panel. -/
theorem readIdBody_of_st7789 (hst : (detectStep1 cfg s).2.1 = 0xFF858552#32) :
    readIdBody cfg s = (0x7789#16, (detectStep1 cfg s).2.2) := if_pos hst

/-- The status that asks for step 3 is not the one of step 2. -/
theorem readIdBody_of_candidate (hst : (detectStep1 cfg s).2.1 = 0x00008000#32) :
    readIdBody cfg s =
      if (detectStep3 cfg (detectStep1 cfg s).2.2).1 then (0x8357#16, (detectStep3 cfg (detectStep1 cfg s).2.2).2)
      else detectSteps45 cfg (detectStep3 cfg (detectStep1 cfg s).2.2).2 := by
  have hother : (detectStep1 cfg s).2.1 ≠ 0xFF858552#32 := by
    rw [hst]
    decide
  exact (if_neg hother).trans (if_pos hst)

/-- Step 3 confirms. -/
theorem readIdBody_of_confirmed (hst : (detectStep1 cfg s).2.1 = 0x00008000#32)
    (hconfirm : (detectStep3 cfg (detectStep1 cfg s).2.2).1 = true) :
    readIdBody cfg s = (0x8357#16, (detectStep3 cfg (detectStep1 cfg s).2.2).2) :=
  (readIdBody_of_candidate hst).trans (if_pos hconfirm)

/-- Step 3 does not confirm. -/
theorem readIdBody_of_unconfirmed (hst : (detectStep1 cfg s).2.1 = 0x00008000#32)
    (hconfirm : (detectStep3 cfg (detectStep1 cfg s).2.2).1 ≠ true) :
    readIdBody cfg s = detectSteps45 cfg (detectStep3 cfg (detectStep1 cfg s).2.2).2 :=
  (readIdBody_of_candidate hst).trans (if_neg hconfirm)

/-- The status is neither. -/
theorem readIdBody_of_neither (hst : (detectStep1 cfg s).2.1 ≠ 0xFF858552#32)
    (hcandidate : (detectStep1 cfg s).2.1 ≠ 0x00008000#32) :
    readIdBody cfg s = detectSteps45 cfg (detectStep1 cfg s).2.2 :=
  (if_neg hst).trans (if_neg hcandidate)

/-- Step 4: the low half of 0x00D3 is a known-good ID. -/
theorem detectSteps45_of_known
    (hid : (readReg32Body cfg 0x00D3#16 s).1.extractLsb' 0 16 = 0x9341#16 ∨
      (readReg32Body cfg 0x00D3#16 s).1.extractLsb' 0 16 = 0x9338#16) :
    detectSteps45 cfg s =
      ((readReg32Body cfg 0x00D3#16 s).1.extractLsb' 0 16, (readReg32Body cfg 0x00D3#16 s).2) := if_pos hid

/-- Step 5: it is not. -/
theorem detectSteps45_of_unknown
    (hid : (readReg32Body cfg 0x00D3#16 s).1.extractLsb' 0 16 ≠ 0x9341#16 ∧
      (readReg32Body cfg 0x00D3#16 s).1.extractLsb' 0 16 ≠ 0x9338#16) :
    detectSteps45 cfg s = readReg16Body cfg 0x0000#16 (readReg32Body cfg 0x00D3#16 s).2 :=
  if_neg (not_or.2 hid)

end

/-- Settles O19: the five ways, the reads of steps 1 and 3 named one by one. -/
theorem readIdDecidesByPriority : Obligations.ReadIdDecidesByPriority := by
  unfold Obligations.ReadIdDecidesByPriority
  intro cfg s db da st c
  exact ⟨readIdBody_of_st7789, fun hst hc => readIdBody_of_confirmed hst (decide_eq_true hc),
    fun hst hc => readIdBody_of_unconfirmed hst (fun hconfirm => hc (of_decide_eq_true hconfirm)),
    readIdBody_of_neither, fun u => ⟨detectSteps45_of_known, fun h₁ h₂ => detectSteps45_of_unknown ⟨h₁, h₂⟩⟩⟩

/-! ### The state after a register read -/

/-- The state after events that end in a register read (R62): the lines as its frame leaves them, and in DOUT the low
byte of the register number it sent. -/
def afterRead (s : State) (low : Byte) (ev : List Event) : State :=
  { s with cs := some 1, cd := some cdData, wr := some 1, rd := some 1, dir := some .write, dout := some low,
           trace := s.trace ++ ev }

/-- The later read says what the lines and DOUT are. -/
theorem afterRead_afterRead (s : State) (low₁ low₂ : Byte) (ev₁ ev₂ : List Event) :
    afterRead (afterRead s low₁ ev₁) low₂ ev₂ = afterRead s low₂ (ev₁ ++ ev₂) := by
  simp only [afterRead, List.append_assoc]

/-- So it does after a register write and a wait. -/
theorem afterRead_delay_writeRegBody (s : State) (addr : Half) {data : List Byte} (hdata : data ≠ []) (k : DelayKind)
    (low : Byte) (ev : List Event) :
    afterRead (delay k (writeRegBody addr data s)) low ev =
      afterRead s low (writeFrame addr data ++ [.delay k] ++ ev) := by
  simp only [afterRead, delay, emit, writeRegBody_eq addr data s hdata, List.append_assoc]

theorem readReg16Body_afterRead (cfg : Config) (addr : Half) (s : State) :
    ∃ d, readReg16Body cfg addr s = (d, afterRead s (addr.extractLsb' 0 8) (readFrame addr (bytesOf16 d))) := by
  obtain ⟨seen, hlen, hread⟩ := readRegBody_eq cfg addr 2 s (by decide)
  obtain ⟨b₀, b₁, rfl⟩ := List.length_eq_two.1 hlen
  exact ⟨b₀ ++ b₁, by simp only [readReg16Body, hread, assemble_two, bytesOf16_append, afterRead]⟩

theorem readReg32Body_afterRead (cfg : Config) (addr : Half) (s : State) :
    ∃ d, readReg32Body cfg addr s = (d, afterRead s (addr.extractLsb' 0 8) (readFrame addr (bytesOf32 d))) := by
  obtain ⟨seen, hlen, hread⟩ := readRegBody_eq cfg addr 4 s (by decide)
  obtain ⟨b₀, b₁, b₂, b₃, rfl⟩ := List.length_eq_four.1 hlen
  exact ⟨b₀ ++ b₁ ++ b₂ ++ b₃, by simp only [readReg32Body, hread, assemble_four, bytesOf32_append, afterRead]⟩

/-! ### The events of each step (R114, R116 to R118) -/

theorem readExtId_afterRead (cfg : Config) (addr : Half) (s : State) :
    ∃ id seen, seen.length = extIdBytes cfg ∧
      readExtId cfg addr s = (id, afterRead s (addr.extractLsb' 0 8) (readFrame addr seen)) := by
  unfold readExtId extIdBytes
  cases cfg.extIdWidth with
  | bits16 =>
    obtain ⟨d, hread⟩ := readReg16Body_afterRead cfg addr s
    exact ⟨d, bytesOf16 d, rfl, hread⟩
  | bits32 =>
    obtain ⟨d, hread⟩ := readReg32Body_afterRead cfg addr s
    exact ⟨d.setWidth 16, bytesOf32 d, rfl, by simp only [hread]⟩

theorem detectStep1_afterRead (cfg : Config) (s : State) :
    ∃ (db da : List Byte) (ext st : Word), db.length = extIdBytes cfg ∧ da.length = extIdBytes cfg ∧
      detectStep1 cfg s = (ext, st, afterRead s 0x04#8 (probeFrames db da st)) := by
  obtain ⟨b, db, hdb, hb⟩ := readExtId_afterRead cfg 0x00DB#16 s
  obtain ⟨a, da, hda, ha⟩ := readExtId_afterRead cfg 0x00DA#16 (readExtId cfg 0x00DB#16 s).2
  obtain ⟨st, hst⟩ := readReg32Body_afterRead cfg 0x0004#16
    (readExtId cfg 0x00DA#16 (readExtId cfg 0x00DB#16 s).2).2
  refine ⟨db, da, b ++ a, st, hdb, hda, ?_⟩
  simp only [detectStep1]
  rw [hst, ha, hb, afterRead_afterRead, afterRead_afterRead]
  rfl

/-- Step 3's write is a register write of at least one byte. -/
theorem setcBody_eq_writeRegBody (cfg : Config) :
    ∃ addr data, data ≠ [] ∧ setcFrame cfg = writeFrame addr data ∧
      ∀ s, setcBody cfg s = writeRegBody addr data s := by
  unfold setcBody setcFrame
  cases cfg.setc with
  | w8 addr data => exact ⟨addr, [data], List.cons_ne_nil _ _, rfl, fun _ => rfl⟩
  | w16 addr data => exact ⟨addr, bytesOf16 data, List.cons_ne_nil _ _, rfl, fun _ => rfl⟩
  | w24 addr data => exact ⟨addr, bytesOf24 data, List.cons_ne_nil _ _, rfl, fun _ => rfl⟩
  | w32 addr data => exact ⟨addr, bytesOf32 data, List.cons_ne_nil _ _, rfl, fun _ => rfl⟩

theorem detectStep3_afterRead (cfg : Config) (s : State) :
    ∃ c : Word, detectStep3 cfg s =
      (decide (c = 0x00990000#32),
        afterRead s 0xD0#8 (setcFrame cfg ++ [.delay .setc] ++ readFrame 0x00D0#16 (bytesOf32 c))) := by
  obtain ⟨addr, data, hdata, hframe, hbody⟩ := setcBody_eq_writeRegBody cfg
  obtain ⟨c, hc⟩ := readReg32Body_afterRead cfg 0x00D0#16 (delay .setc (setcBody cfg s))
  refine ⟨c, ?_⟩
  simp only [detectStep3]
  rw [hc, hbody, afterRead_delay_writeRegBody s addr hdata, hframe]
  rfl

theorem detectSteps45_afterRead (cfg : Config) (s : State) :
    ∃ ev id low, FinalProbe ev id low ∧ detectSteps45 cfg s = (id, afterRead s low ev) := by
  obtain ⟨d, hd⟩ := readReg32Body_afterRead cfg 0x00D3#16 s
  by_cases hid : d.extractLsb' 0 16 = 0x9341#16 ∨ d.extractLsb' 0 16 = 0x9338#16
  · refine ⟨_, _, _, .known d hid, ?_⟩
    rw [detectSteps45_of_known (by rwa [hd]), hd]
    rfl
  · obtain ⟨id, hlegacy⟩ := readReg16Body_afterRead cfg 0x0000#16 (readReg32Body cfg 0x00D3#16 s).2
    refine ⟨_, _, _, .legacy d id (not_or.1 hid), ?_⟩
    rw [detectSteps45_of_unknown (by rw [hd]; exact not_or.1 hid), hlegacy, hd, afterRead_afterRead]
    rfl

/-! ### The table (R119) -/

theorem readIdBody_afterRead (cfg : Config) (s : State) :
    ∃ ev id low, Detection cfg ev id low ∧ readIdBody cfg s = (id, afterRead s low ev) := by
  obtain ⟨db, da, ext, st, hdb, hda, hone⟩ := detectStep1_afterRead cfg s
  have hst : (detectStep1 cfg s).2.1 = st := by rw [hone]
  by_cases h₂ : st = 0xFF858552#32
  · subst h₂
    exact ⟨_, _, _, .step2 db da hdb hda, by rw [readIdBody_of_st7789 hst, hone]⟩
  by_cases h₃ : st = 0x00008000#32
  · subst h₃
    obtain ⟨c, hthree⟩ := detectStep3_afterRead cfg (detectStep1 cfg s).2.2
    by_cases hc : c = 0x00990000#32
    · subst hc
      refine ⟨_, _, _, .step3 db da hdb hda, ?_⟩
      rw [readIdBody_of_confirmed hst (by rw [hthree]; rfl), hthree, hone, afterRead_afterRead]
      simp only [List.append_assoc]
    · obtain ⟨ev, id, low, hprobe, hfinal⟩ := detectSteps45_afterRead cfg (detectStep3 cfg (detectStep1 cfg s).2.2).2
      refine ⟨_, _, _, .unconfirmed db da c ev id low hdb hda hc hprobe, ?_⟩
      rw [readIdBody_of_unconfirmed hst (by simpa [hthree] using hc), hfinal, hthree, hone, afterRead_afterRead,
        afterRead_afterRead]
      simp only [List.append_assoc]
  · obtain ⟨ev, id, low, hprobe, hfinal⟩ := detectSteps45_afterRead cfg (detectStep1 cfg s).2.2
    refine ⟨_, _, _, .neither db da st ev id low hdb hda ⟨h₂, h₃⟩ hprobe, ?_⟩
    rw [readIdBody_of_neither (hst ▸ h₂) (hst ▸ h₃), hfinal, hone, afterRead_afterRead]

/-- Settles O18: the row is the one that `readIdBody_afterRead` finds, and READ_ID returns its ID. -/
theorem readIdFollowsTheDetectionTable : Obligations.ReadIdFollowsTheDetectionTable := by
  unfold Obligations.ReadIdFollowsTheDetectionTable
  intro s hadmitted
  have hexec : exec .readId s = perform registerNeeds (readIdReturning Config.board) s := rfl
  obtain ⟨ev, id, low, hrow, hbody⟩ := readIdBody_afterRead Config.board (clearResult s)
  refine ⟨ev, id, low, hrow, ?_⟩
  rw [hexec, perform_registerNeeds hadmitted, readIdReturning, hbody]
  rfl

end Sys2Proof.Machine
end

section
/-! PROOF. SET_ADDR_WINDOW, PUSH_COLORS and DRAW_PIXEL (spec/43_blit.md R131, R134, R136). In a state that R130 admits a
BlitEngine operation is its body, run from a cleared result port, and Laws/Bodies.lean gives the events of the body. -/

namespace Sys2Proof.Machine

/-! ### Admitted operations (R130) -/

section
variable {κ : Kind} {s : State} {cfg : Config} {body : VariantRecord → State → State}
  (hadmitted : variantAdmitted κ s)
include hadmitted

/-- An admitted operation whose body runs some events runs those. -/
theorem performVariant_of_events {ev : List Event} (hbody : ∀ u, body (cfg.variant κ) u = afterEvents u ev) :
    performVariant cfg (fun v u => .next (body v u)) s = .next { afterEvents s ev with result := none } := by
  rw [performVariant_of_admitted hadmitted, hbody, afterEvents_clearResult]

/-- An admitted operation whose body does nothing only clears the result port. -/
theorem performVariant_of_silent (hbody : ∀ u, body (cfg.variant κ) u = u) :
    performVariant cfg (fun v u => .next (body v u)) s = .next { s with result := none } := by
  rw [performVariant_of_admitted hadmitted, hbody]
  rfl

end

/-! ### SET_ADDR_WINDOW and PUSH_COLORS -/

/-- Settles O22: the body plays the sequence, and playing is running its events. -/
theorem setAddrWindowPlaysTheWindowSequence : Obligations.SetAddrWindowPlaysTheWindowSequence := by
  unfold Obligations.SetAddrWindowPlaysTheWindowSequence
  intro s κ x1 y1 x2 y2 hadmitted
  exact performVariant_of_events hadmitted (windowBody_after _ x1 y1 x2 y2)

/-- Settles O27: the stream of the cells, with BUF not among what events change. -/
theorem pushColorsSendsTheCellsVerbatim : Obligations.PushColorsSendsTheCellsVerbatim := by
  unfold Obligations.PushColorsSendsTheCellsVerbatim
  intro s κ first count base px hadmitted hrange hcells
  rw [exec_pushColors_of_admitted hadmitted hrange hcells, afterEvents_clearResult]

/-! ### DRAW_PIXEL -/

theorem pixelPlacement_of_outside (cfg : Config) {v : VariantRecord} (color : Pixel) {x y : Int}
    (hout : x < 0 ∨ y < 0 ∨ v.width.size ≤ x ∨ v.height.size ≤ y) : pixelPlacement cfg v color x y = [] :=
  if_neg (by omega)

/-- Settles O30: the body places the pixel, and the placement of a pixel outside is no event. -/
theorem drawPixelPlacesOnePixelOrNothing : Obligations.DrawPixelPlacesOnePixelOrNothing := by
  unfold Obligations.DrawPixelPlacesOnePixelOrNothing
  intro s κ color x y hadmitted
  have hexec : exec (.drawPixel color x y) s = .next { afterEvents s _ with result := none } :=
    performVariant_of_events hadmitted (pixelBody_after Config.board _ color x.toInt y.toInt)
  refine ⟨hexec, fun hout => ?_⟩
  rw [hexec, pixelPlacement_of_outside Config.board color hout, afterEvents_nil]

end Sys2Proof.Machine
end

section
/-! PROOF. FLOOD (spec/43_blit.md R132, R133, R146). Both paths send one opening, ending with the first pixel, and then
repeat a run of events for each further pixel: the pixel's bytes, or two bare strobes. After the opening neither run
moves a latch; and where the colour's two bytes are equal, both put the same items on the bus, because DOUT already
holds that byte. -/

namespace Sys2Proof.Machine

/-! ### The common shape of both paths -/

/-- A flood up to the end of its first pixel. -/
def floodOpening (gw : Half) (color : Pixel) : List Event :=
  commandEvents gw ++ [.cd cdData] ++ pixelEvents color

/-- A flood that runs the events `again` for each of `n` further pixels. -/
def repeatedFrame (gw : Half) (color : Pixel) (again : List Event) (n : Nat) : List Event :=
  floodOpening gw color ++ ((List.replicate n again).flatten ++ [.cs 1])

theorem strobeFrame_eq_repeatedFrame (gw : Half) (color : Pixel) (count : Nat) :
    strobeFrame gw color count = repeatedFrame gw color (wsEvents ++ wsEvents) (count - 1) :=
  List.append_assoc ..

theorem streamFrame_eq_repeatedFrame (gw : Half) (color : Pixel) {count : Nat} (hcount : 1 ≤ count) :
    streamFrame (some gw) (List.replicate count color) = repeatedFrame gw color (pixelEvents color) (count - 1) := by
  obtain ⟨n, rfl⟩ := Nat.exists_eq_add_of_le' hcount
  simp only [streamFrame, repeatedFrame, floodOpening, List.replicate_succ, List.flatMap_cons,
    flatMap_replicate_pixelEvents, Nat.add_sub_cancel, List.append_assoc]

/-! ### The latches after a flood -/

/-- The events `again` move no latch once a pixel of this colour has been sent. -/
def KeepsLatchesAfter (color : Pixel) (again : List Event) : Prop :=
  ∀ l : Latches, l.wr = some 1 → l.dout = some (color.extractLsb' 0 8) → again.foldl latchStep l = l

theorem strobes_keepLatchesAfter (color : Pixel) : KeepsLatchesAfter color (wsEvents ++ wsEvents) := by
  rintro ⟨dir, cs, cd, wr, rd, rst, dout⟩ hwr -
  cases hwr
  rfl

theorem pixelEvents_keepLatchesAfter (color : Pixel) : KeepsLatchesAfter color (pixelEvents color) := by
  rintro ⟨dir, cs, cd, wr, rd, rst, dout⟩ hwr hdout
  cases hwr
  cases hdout
  rfl

theorem KeepsLatchesAfter.replicate {color : Pixel} {again : List Event} (h : KeepsLatchesAfter color again)
    (n : Nat) : KeepsLatchesAfter color (List.replicate n again).flatten := by
  intro l hwr hdout
  induction n with
  | zero => rfl
  | succ n ih => rw [List.replicate_succ, List.flatten_cons, List.foldl_append, h l hwr hdout, ih]

theorem afterEvents_repeatedFrame (gw : Half) {color : Pixel} {again : List Event}
    (h : KeepsLatchesAfter color again) (n : Nat) (s : State) :
    afterEvents s (repeatedFrame gw color again n) =
      { s with cs := some 1, cd := some cdData, wr := some 1, dout := some (color.extractLsb' 0 8),
               trace := s.trace ++ repeatedFrame gw color again n } := by
  have hlatches : (repeatedFrame gw color again n).foldl latchStep (latchesOf s) =
      { latchesOf s with cs := some 1, cd := some cdData, wr := some 1, dout := some (color.extractLsb' 0 8) } := by
    rw [repeatedFrame, List.foldl_append, List.foldl_append, h.replicate n _ rfl rfl]
    rfl
  rw [afterEvents, hlatches]
  rfl

theorem afterEvents_strobeFrame (gw : Half) (color : Pixel) (count : Nat) (s : State) :
    afterEvents s (strobeFrame gw color count) =
      { s with cs := some 1, cd := some cdData, wr := some 1, dout := some (color.extractLsb' 0 8),
               trace := s.trace ++ strobeFrame gw color count } := by
  rw [strobeFrame_eq_repeatedFrame]
  exact afterEvents_repeatedFrame gw (strobes_keepLatchesAfter color) _ s

theorem afterEvents_streamFrame_replicate (gw : Half) (color : Pixel) {count : Nat} (hcount : 1 ≤ count) (s : State) :
    afterEvents s (streamFrame (some gw) (List.replicate count color)) =
      { s with cs := some 1, cd := some cdData, wr := some 1, dout := some (color.extractLsb' 0 8),
               trace := s.trace ++ streamFrame (some gw) (List.replicate count color) } := by
  rw [streamFrame_eq_repeatedFrame gw color hcount]
  exact afterEvents_repeatedFrame gw (pixelEvents_keepLatchesAfter color) _ s

theorem afterEvents_floodEvents (strobeOnly : Bool) (gw : Half) (color : Pixel) {count : Nat} (hcount : 1 ≤ count)
    (s : State) :
    afterEvents s (floodEvents strobeOnly gw color count) =
      { s with cs := some 1, cd := some cdData, wr := some 1, dout := some (color.extractLsb' 0 8),
               trace := s.trace ++ floodEvents strobeOnly gw color count } := by
  unfold floodEvents
  split
  · exact afterEvents_strobeFrame gw color count s
  · exact afterEvents_streamFrame_replicate gw color hcount s

/-! ### FLOOD on both sides of its count check (R132) -/

theorem one_le_toNat_of_ne_zero {count : Word} (hcount : count ≠ 0) : 1 ≤ count.toNat :=
  Nat.one_le_iff_ne_zero.2 fun hzero => hcount (BitVec.eq_of_toNat_eq hzero)

section
variable {κ : Kind} {s : State} (hadmitted : variantAdmitted κ s)
include hadmitted

theorem exec_flood_of_ne_zero (color : Pixel) {count : Word} (hcount : count ≠ 0) :
    exec (.flood color count) s =
      .next (afterEvents (clearResult s)
        (floodEvents Config.board.strobeOnlyFlood (Config.board.variant κ).gramWrite color count.toNat)) := by
  simp only [exec, execFlood, floodOn]
  rw [performVariant_of_admitted hadmitted, if_neg hcount, floodBody_after _ _ _ (one_le_toNat_of_ne_zero hcount)]

theorem exec_flood_zero (color : Pixel) : exec (.flood color 0) s = .refused .zeroCount := by
  simp only [exec, execFlood, floodOn]
  rw [performVariant_of_admitted hadmitted]
  rfl

end

/-- Settles O23: the flood's events, with the latches they leave. -/
theorem floodSendsThePreambleAndCountPixels : Obligations.FloodSendsThePreambleAndCountPixels := by
  unfold Obligations.FloodSendsThePreambleAndCountPixels
  intro s κ color count hadmitted
  refine ⟨fun hcount => ?_, fun hcount => ?_⟩
  · rw [exec_flood_of_ne_zero hadmitted color hcount, afterEvents_floodEvents _ _ _ (one_le_toNat_of_ne_zero hcount)]
    rfl
  · rw [hcount]
    exact exec_flood_zero hadmitted color

/-! ### Both paths on the bus (R133) -/

theorem viewAfter_strobes_eq_pixel {color : Pixel} {v : BusView}
    (hdout : v.dout = some (color.extractLsb' 0 8)) :
    viewAfter v (wsEvents ++ wsEvents) = viewAfter v (pixelEvents color) := by
  obtain ⟨cs, cd, dir, dout, pulse⟩ := v
  cases hdout
  rfl

section
variable {color : Pixel} (hsame : color.extractLsb' 8 8 = color.extractLsb' 0 8)
include hsame

/-- With the colour's byte in DOUT, two bare strobes put the pixel's bytes on the bus. -/
theorem bytesFrom_strobes_eq_pixel {v : BusView} (hdout : v.dout = some (color.extractLsb' 0 8)) :
    bytesFrom v (wsEvents ++ wsEvents) = bytesFrom v (pixelEvents color) := by
  obtain ⟨cs, cd, dir, dout, pulse⟩ := v
  cases hdout
  rw [pixelEvents, hsame]
  rfl

theorem bytesFrom_replicate_strobes_append (n : Nat) (ev : List Event) {v : BusView}
    (hdout : v.dout = some (color.extractLsb' 0 8)) :
    bytesFrom v ((List.replicate n (wsEvents ++ wsEvents)).flatten ++ ev) =
      bytesFrom v ((List.replicate n (pixelEvents color)).flatten ++ ev) := by
  induction n generalizing v with
  | zero => rfl
  | succ n ih =>
    have hnext : (viewAfter v (pixelEvents color)).dout = some (color.extractLsb' 0 8) := rfl
    simp only [List.replicate_succ, List.flatten_cons, List.append_assoc (bs := List.flatten _)]
    rw [bytesFrom_append, bytesFrom_append _ (pixelEvents color), bytesFrom_strobes_eq_pixel hsame hdout,
      viewAfter_strobes_eq_pixel hdout, ih hnext]

/-- Whatever the scan has seen before, it finds the same items on both paths. -/
theorem bytesFrom_strobeFrame (gw : Half) {count : Nat} (hcount : 1 ≤ count) (v : BusView) :
    bytesFrom v (strobeFrame gw color count) =
      bytesFrom v (streamFrame (some gw) (List.replicate count color)) := by
  have hdout : (viewAfter v (floodOpening gw color)).dout = some (color.extractLsb' 0 8) := rfl
  rw [streamFrame_eq_repeatedFrame gw color hcount, strobeFrame_eq_repeatedFrame, repeatedFrame, repeatedFrame,
    bytesFrom_append, bytesFrom_append v (floodOpening gw color), bytesFrom_replicate_strobes_append hsame _ _ hdout]

end

theorem bytesFrom_floodEvents (strobeOnly : Bool) (gw : Half) (color : Pixel) {count : Nat} (hcount : 1 ≤ count)
    {v : BusView} (hdir : v.dir = some .write) :
    bytesFrom v (floodEvents strobeOnly gw color count) =
      commandItems gw ++ pixelItems (List.replicate count color) ++ [.frameEnd] := by
  rw [← bytesFrom_streamFrame hdir, floodEvents]
  split
  · next hpath =>
    obtain ⟨-, hsame⟩ := Bool.and_eq_true_iff.1 hpath
    exact bytesFrom_strobeFrame (of_decide_eq_true hsame) gw hcount v
  · rfl

/-- Settles O24: the items of both paths are those of the stream. -/
theorem floodBytesDoNotDependOnThePath : Obligations.FloodBytesDoNotDependOnThePath := by
  unfold Obligations.FloodBytesDoNotDependOnThePath
  intro s κ color count hadmitted hcount
  have hdir : (viewOf s).dir = some .write := by
    obtain ⟨-, -, -, hdir⟩ := hadmitted
    exact hdir
  exact ⟨_, _, exec_flood_of_ne_zero hadmitted color hcount, rfl,
    bytesFrom_floodEvents _ _ color (one_le_toNat_of_ne_zero hcount) hdir⟩

/-- Two strobes for the command, and two for each pixel. -/
theorem count_wr_repeatedFrame (gw : Half) (color : Pixel) {again : List Event} (hagain : again.count (.wr 0) = 2)
    {count : Nat} (hcount : 1 ≤ count) :
    (repeatedFrame gw color again (count - 1)).count (.wr 0) = 2 + 2 * count := by
  have hopening : (floodOpening gw color).count (.wr 0) = 4 := rfl
  have hfurther : (List.replicate (count - 1) again).flatten.count (.wr 0) = (count - 1) * 2 := by
    rw [List.count_flatten, List.map_replicate, List.sum_replicate, hagain, smul_eq_mul]
  have hend : List.count (.wr 0) [Event.cs 1] = 0 := rfl
  rw [repeatedFrame, List.count_append, List.count_append, hopening, hfurther, hend]
  omega

/-- Settles O25: both paths run their frames, which leave the same latches, put the same items on the bus from any view,
and strobe alike. -/
theorem floodPathsAreBusEquivalent : Obligations.FloodPathsAreBusEquivalent := by
  unfold Obligations.FloodPathsAreBusEquivalent
  intro gw color count s hcount hsame
  have hstrobes : (wsEvents ++ wsEvents).count (.wr 0) = 2 := rfl
  have hpixel : (pixelEvents color).count (.wr 0) = 2 := rfl
  simp only [floodByStrobes_after, floodByBytes_after gw color hcount, afterEvents_trace]
  refine ⟨?_, ?_, ?_, ?_⟩
  · rw [afterEvents_strobeFrame, afterEvents_streamFrame_replicate gw color hcount]
  · simp only [busEquivalent, bytes, bytesFrom_append, bytesFrom_strobeFrame hsame gw hcount]
  · rw [List.count_append, strobeFrame_eq_repeatedFrame, count_wr_repeatedFrame gw color hstrobes hcount]
  · rw [List.count_append, streamFrame_eq_repeatedFrame gw color hcount,
      count_wr_repeatedFrame gw color hpixel hcount]

/-! ### Batches (R146) -/

theorem repeatTimes_eq_iterate (n : Nat) (f : State → State) : repeatTimes n f = f^[n] := by
  funext s
  induction n generalizing s with
  | zero => rfl
  | succ n ih => exact ih (f s)

/-- Whole batches of `m` and the remainder make up the `n` repetitions. -/
theorem repeatTimes_batched (m n : Nat) (f : State → State) (s : State) :
    repeatTimes (n % m) f (repeatTimes (n / m) (repeatTimes m f) s) = repeatTimes n f s := by
  simp only [repeatTimes_eq_iterate, ← Function.iterate_mul]
  rw [← Function.iterate_add_apply, Nat.mod_add_div]

/-- Settles O26: batching the repetitions inside the frame. -/
theorem floodBatchingIsUnobservable : Obligations.FloodBatchingIsUnobservable := by
  unfold Obligations.FloodBatchingIsUnobservable
  intro gw color count s
  have hrest := funext (repeatTimes_batched 64 (count - 1) strobePixel)
  exact ⟨congrArg (floodFrame gw color · s) hrest, Nat.div_add_mod _ _⟩

end Sys2Proof.Machine
end

section
/-! PROOF. Clipping, FILL_RECT and the fast lines (spec/43_blit.md R138 to R142). `clip` is the intersection with the
panel; FILL_RECT is a window and a flood where both coordinates meet the panel, else nothing; a fast line is the
rectangle of extent 1. -/

namespace Sys2Proof.Machine

/-! ### clip (R141) -/

theorem clip_of_meets {a n limit : Int} (hn : 0 < n) (hstart : a < limit) (hend : 0 ≤ a + n - 1) :
    clip a n limit = some (max a 0, min (a + n - 1) (limit - 1)) := by
  rw [clip, if_neg (by omega), if_neg (by omega)]

/-- What `clip` answers is an interval of the panel. -/
theorem clip_within {a n limit x y : Int} (hlimit : 1 ≤ limit) (hclip : clip a n limit = some (x, y)) :
    0 ≤ x ∧ x ≤ y ∧ y < limit := by
  have hanswer := clip_some hclip
  omega

/-- The same against a panel extent, which is never empty (R29). -/
theorem clip_size_within {a n x y : Int} {e : PanelExtent} (hclip : clip a n e.size = some (x, y)) :
    0 ≤ x ∧ x ≤ y ∧ y < e.size := by
  have hsize := size_bounds e
  exact clip_within (by omega) hclip

/-- An interval of one point is not cut. -/
theorem clip_one_some {a limit x y : Int} (hclip : clip a 1 limit = some (x, y)) : x = a ∧ y = a := by
  have hanswer := clip_some hclip
  omega

/-- Settles O35: an answer is cut at the panel's edges; if there is none, the first point on the panel would already lie
beyond one of the ends. -/
theorem clipIsTheIntersection : Obligations.ClipIsTheIntersection := by
  unfold Obligations.ClipIsTheIntersection
  intro a n limit hlimit
  refine ⟨fun x y hclip => ?_, ?_⟩
  · obtain ⟨hx, hxy, hy⟩ := clip_within hlimit hclip
    obtain ⟨-, -, -, rfl, rfl⟩ := clip_some hclip
    exact ⟨hx, hxy, Int.le_sub_one_of_lt hy, fun c => by omega⟩
  · rw [clip_eq_none_iff]
    refine ⟨fun hmiss c => by omega, fun hempty => ?_⟩
    have hfirst := hempty (max a 0)
    omega

/-! ### FILL_RECT (R138) -/

theorem fillBody_of_clip {v : VariantRecord} {x y w h x1 x2 y1 y2 : Int}
    (hx : clip x w v.width.size = some (x1, x2)) (hy : clip y h v.height.size = some (y1, y2))
    (cfg : Config) (color : Pixel) (s : State) :
    fillBody cfg v color x y w h s =
      afterEvents s (windowFlood cfg v (BitVec.ofInt 16 x1) (BitVec.ofInt 16 y1) (BitVec.ofInt 16 x2)
        (BitVec.ofInt 16 y2) color ((x2 - x1 + 1) * (y2 - y1 + 1)).toNat) := by
  obtain ⟨-, hx12, -⟩ := clip_size_within hx
  obtain ⟨-, hy12, -⟩ := clip_size_within hy
  have harea : 0 < (x2 - x1 + 1) * (y2 - y1 + 1) := Int.mul_pos (by omega) (by omega)
  rw [fillBody, hx, hy]
  exact setWindow_flood_after cfg v x1 y1 x2 y2 color (by omega) s

theorem fillBody_of_clip_none {v : VariantRecord} {x y w h : Int}
    (hmiss : clip x w v.width.size = none ∨ clip y h v.height.size = none)
    (cfg : Config) (color : Pixel) (s : State) : fillBody cfg v color x y w h s = s := by
  unfold fillBody
  split
  · next hx hy => simp [hx, hy] at hmiss
  · rfl

/-- Settles O31: where both coordinates meet the panel, `clip` answers the corners of the part inside. -/
theorem fillRectFillsThePartInside : Obligations.FillRectFillsThePartInside := by
  unfold Obligations.FillRectFillsThePartInside
  intro s κ color x y w h hadmitted hw hh hxstart hxend hystart hyend
  exact performVariant_of_events hadmitted
    (fillBody_of_clip (clip_of_meets hw hxstart hxend) (clip_of_meets hh hystart hyend) Config.board color)

/-- A rectangle that is empty or misses the panel is not drawn (R142). -/
theorem exec_fillRect_of_misses {κ : Kind} {s : State} (hadmitted : variantAdmitted κ s) (color : Pixel)
    {x y w h : Half}
    (hmiss : w.toInt ≤ 0 ∨ h.toInt ≤ 0 ∨ (Config.board.variant κ).width.size ≤ x.toInt ∨ x.toInt + w.toInt - 1 < 0 ∨
      (Config.board.variant κ).height.size ≤ y.toInt ∨ y.toInt + h.toInt - 1 < 0) :
    exec (.fillRect color x y w h) s = .next { s with result := none } := by
  have hclip : clip x.toInt w.toInt (Config.board.variant κ).width.size = none ∨
      clip y.toInt h.toInt (Config.board.variant κ).height.size = none := by
    rw [clip_eq_none_iff, clip_eq_none_iff]
    omega
  exact performVariant_of_silent hadmitted (fillBody_of_clip_none hclip Config.board color)

/-! ### Fast lines (R139, R140) -/

theorem hlineBody_eq_fillBody (cfg : Config) (v : VariantRecord) (color : Pixel) (x y len : Int) (s : State) :
    hlineBody cfg v color x y len s = fillBody cfg v color x y len 1 s := by
  cases hx : clip x len v.width.size with
  | none => simp [hlineBody, fillBody, hx]
  | some xs =>
    cases hy : clip y 1 v.height.size with
    | none => simp [hlineBody, fillBody, hx, hy]
    | some ys =>
      obtain ⟨hy1, hy2⟩ := clip_one_some hy
      simp [hlineBody, fillBody, hx, hy, hy1, hy2]

theorem vlineBody_eq_fillBody (cfg : Config) (v : VariantRecord) (color : Pixel) (x y len : Int) (s : State) :
    vlineBody cfg v color x y len s = fillBody cfg v color x y 1 len s := by
  cases hx : clip x 1 v.width.size with
  | none => simp [vlineBody, fillBody, hx]
  | some xs =>
    cases hy : clip y len v.height.size with
    | none => simp [vlineBody, fillBody, hx, hy]
    | some ys =>
      obtain ⟨hx1, hx2⟩ := clip_one_some hx
      simp [vlineBody, fillBody, hx, hy, hx1, hx2]

/-- Settles O33: the bodies are equal, and both operations ask for the same (R130). -/
theorem fastLinesAreThinRectangles : Obligations.FastLinesAreThinRectangles := by
  unfold Obligations.FastLinesAreThinRectangles
  intro s color x y len
  simp only [exec, execDrawFastHLine, execDrawFastVLine, execFillRect, hlineOn, vlineOn, hlineBody_eq_fillBody,
    vlineBody_eq_fillBody]
  exact ⟨rfl, rfl⟩

/-- The thin side of a line on the panel is not cut. -/
theorem clip_one_of_inside {a : Half} {limit : Int} (hstart : 0 ≤ a.toInt) (hend : a.toInt < limit) :
    clip a.toInt (1 : Half).toInt limit = some (a.toInt, a.toInt) := by
  have hone : (1 : Half).toInt = 1 := rfl
  rw [hone, clip_of_meets Int.one_pos hend (by omega)]
  congr 2 <;> omega

/-- Settles O32: the rectangles of O33, whose thin side keeps its operand and counts as 1 in the area. -/
theorem fastLinesFillThePartInside : Obligations.FastLinesFillThePartInside := by
  unfold Obligations.FastLinesFillThePartInside
  intro s κ color x y len hadmitted hlen
  obtain ⟨hhline, hvline⟩ := fastLinesAreThinRectangles s color x y len
  refine ⟨fun hxstart hxend hystart hyend => ?_, fun hystart hyend hxstart hxend => ?_⟩
  · have hfill := fillBody_of_clip (clip_of_meets hlen hxstart hxend) (clip_one_of_inside hystart hyend)
      Config.board color
    simp only [BitVec.ofInt_toInt, Int.sub_self, Int.zero_add, Int.mul_one] at hfill
    rw [hhline]
    exact performVariant_of_events hadmitted hfill
  · have hfill := fillBody_of_clip (clip_one_of_inside hxstart hxend) (clip_of_meets hlen hystart hyend)
      Config.board color
    simp only [BitVec.ofInt_toInt, Int.sub_self, Int.zero_add, Int.one_mul] at hfill
    rw [hvline]
    exact performVariant_of_events hadmitted hfill

end Sys2Proof.Machine
end

section
/-! PROOF. DRAW_BITMAP (spec/43_blit.md R135), and the requests that draw nothing (R142, R152). The slow path consumes
the cells row by row, so the pixel at column `i` of row `j` is cell `j * w + i`; a bitmap that misses the panel places
every pixel outside. -/

namespace Sys2Proof.Machine

/-! ### The slow path -/

theorem zipIdx_map_range (n : Nat) (px : Nat → Pixel) :
    ((List.range n).map px).zipIdx = (List.range n).map fun i => (px i, i) :=
  List.ext_getElem (by simp) (by simp)

theorem map_range_add (m n : Nat) (px : Nat → Pixel) :
    (List.range (m + n)).map px = (List.range m).map px ++ (List.range n).map fun k => px (m + k) := by
  rw [List.range_add, List.map_append, List.map_map]
  rfl

/-- The events of one row of `w` pixels from (x, y) on. -/
def rowPlacement (cfg : Config) (v : VariantRecord) (x y : Int) (w : Nat) (px : Nat → Pixel) : List Event :=
  (List.range w).flatMap fun i => pixelPlacement cfg v (px i) (x + i) y

/-- The events of `h` rows of `w` pixels from (x, y) on, row by row. -/
def bitmapPlacement (cfg : Config) (v : VariantRecord) (x y : Int) (w h : Nat) (px : Nat → Pixel) : List Event :=
  (List.range h).flatMap fun j : Nat => rowPlacement cfg v x (y + j) w fun i => px (j * w + i)

theorem bitmapRow_map_range (cfg : Config) (v : VariantRecord) (x y : Int) (w : Nat) (px : Nat → Pixel) (s : State) :
    bitmapRow cfg v x y ((List.range w).map px) s = afterEvents s (rowPlacement cfg v x y w px) := by
  rw [bitmapRow_after, zipIdx_map_range, List.flatMap_map, rowPlacement]

/-- The first row, then the bitmap below it, whose cells start after that row. -/
theorem bitmapPlacement_succ (cfg : Config) (v : VariantRecord) (x y : Int) (w h : Nat) (px : Nat → Pixel) :
    bitmapPlacement cfg v x y w (h + 1) px =
      rowPlacement cfg v x y w px ++ bitmapPlacement cfg v x (y + 1) w h fun k => px (w + k) := by
  have hrow (j : Nat) : y + ((j + 1 : Nat) : Int) = y + 1 + j := by omega
  have hcell (j i : Nat) : (j + 1) * w + i = w + (j * w + i) := by rw [Nat.succ_mul]; omega
  simp only [bitmapPlacement, List.range_succ_eq_map, List.flatMap_cons, List.flatMap_map, hrow, hcell,
    Nat.cast_zero, Int.add_zero, Nat.zero_mul, Nat.zero_add]

theorem bitmapRows_map_range (cfg : Config) (v : VariantRecord) (x : Int) (w h : Nat) (y : Int) (px : Nat → Pixel)
    (s : State) :
    bitmapRows cfg v x w h y ((List.range (h * w)).map px) s = afterEvents s (bitmapPlacement cfg v x y w h px) := by
  induction h generalizing y px s with
  | zero => exact (afterEvents_nil s).symm
  | succ h ih =>
    rw [bitmapRows, Nat.succ_mul, Nat.add_comm, map_range_add, List.take_left' (by simp), List.drop_left' (by simp),
      bitmapRow_map_range, ih, ← afterEvents_append, bitmapPlacement_succ]

/-- A bitmap that misses the panel has no pixel inside. -/
theorem bitmapPlacement_of_misses (cfg : Config) {v : VariantRecord} {x y w h : Int}
    (hmiss : v.width.size ≤ x ∨ x + w - 1 < 0 ∨ v.height.size ≤ y ∨ y + h - 1 < 0) (px : Nat → Pixel) :
    bitmapPlacement cfg v x y w.toNat h.toNat px = [] := by
  simp only [bitmapPlacement, rowPlacement, List.flatMap_eq_nil_iff, List.mem_range]
  intro j hj i hi
  exact pixelPlacement_of_outside cfg _ (by omega)

/-! ### DRAW_BITMAP -/

theorem rectInside_iff (x y w h : Int) (v : VariantRecord) :
    rectInside x y w h v = true ↔ 0 ≤ x ∧ 0 ≤ y ∧ x + w ≤ v.width.size ∧ y + h ≤ v.height.size := by
  simp [rectInside, and_assoc]

section
variable {κ : Kind} {s : State} {x y w h : Half} {base : Word} (hadmitted : variantAdmitted κ s)
include hadmitted

theorem exec_drawBitmap_of_empty (hempty : w.toInt ≤ 0 ∨ h.toInt ≤ 0) :
    exec (.drawBitmap x y w h base) s = .next { s with result := none } := by
  simp only [exec, execDrawBitmap, drawBitmapOn]
  rw [performVariant_of_admitted hadmitted, if_pos hempty]
  rfl

variable {px : Nat → Pixel} (hw : 0 < w.toInt) (hh : 0 < h.toInt)
  (hrange : base.toNat + (w.toInt * h.toInt).toNat ≤ 2 ^ 32)
  (hcells : ∀ k, k < (w.toInt * h.toInt).toNat → Memory.read s.buf (base.toNat + k) = some (px k))
include hw hh hrange hcells

theorem exec_drawBitmap_of_cells :
    exec (.drawBitmap x y w h base) s =
      .next (bitmapBody Config.board (Config.board.variant κ) x.toInt y.toInt w.toInt h.toInt
        ((List.range (w.toInt * h.toInt).toNat).map px) (clearResult s)) := by
  have hread : Memory.readMany (clearResult s).buf base.toNat (w.toInt * h.toInt).toNat = _ :=
    readMany_of_cells hcells
  have hsome : ¬(sint w ≤ 0 ∨ sint h ≤ 0) := not_or.2 ⟨not_le.2 hw, not_le.2 hh⟩
  simp only [exec, execDrawBitmap, drawBitmapOn]
  rw [performVariant_of_admitted hadmitted, if_neg hsome, withCells_of_readMany hrange hread]

theorem exec_drawBitmap_of_not_inside
    (hout : ¬(0 ≤ x.toInt ∧ 0 ≤ y.toInt ∧ x.toInt + w.toInt ≤ (Config.board.variant κ).width.size ∧
      y.toInt + h.toInt ≤ (Config.board.variant κ).height.size)) :
    exec (.drawBitmap x y w h base) s =
      .next { afterEvents s (bitmapPlacement Config.board (Config.board.variant κ) x.toInt y.toInt w.toInt.toNat
                h.toInt.toNat px) with result := none } := by
  have harea : (w.toInt * h.toInt).toNat = h.toInt.toNat * w.toInt.toNat := by
    rw [Int.toNat_mul hw.le hh.le, Nat.mul_comm]
  rw [exec_drawBitmap_of_cells hadmitted hw hh hrange hcells, bitmapBody, if_neg (mt (rectInside_iff ..).1 hout), harea,
    bitmapRows_map_range, afterEvents_clearResult]

end

/-- Settles O28: the fast path is a window of the operands themselves and one stream of the cells. -/
theorem drawBitmapInsideIsOneWindowAndOneBurst : Obligations.DrawBitmapInsideIsOneWindowAndOneBurst := by
  unfold Obligations.DrawBitmapInsideIsOneWindowAndOneBurst
  intro s κ x y w h base px hadmitted hx hy hw hh hright hbottom hrange hcells
  have hinside := (rectInside_iff ..).2 ⟨hx, hy, hright, hbottom⟩
  rw [exec_drawBitmap_of_cells hadmitted hw hh hrange hcells, bitmapBody, if_pos hinside, pushBody_after, setWindow,
    windowBody_after, ← afterEvents_append, afterEvents_clearResult]
  simp only [coordField, BitVec.ofInt_toInt]
  rfl

/-- Settles O29: `bitmapPlacement` written out. -/
theorem drawBitmapOutsideIsPixelByPixel : Obligations.DrawBitmapOutsideIsPixelByPixel := by
  unfold Obligations.DrawBitmapOutsideIsPixelByPixel
  intro s κ x y w h base px hadmitted hw hh hout hrange hcells
  exact exec_drawBitmap_of_not_inside hadmitted hw hh hrange hcells hout

/-! ### Requests that draw nothing (R142, R152) -/

/-- A bitmap that misses the panel reads its cells and draws none of them. -/
theorem exec_drawBitmap_of_misses {κ : Kind} {s : State} (hadmitted : variantAdmitted κ s) {x y w h : Half}
    {base : Word} (hw : 0 < w.toInt) (hh : 0 < h.toInt)
    (hmiss : (Config.board.variant κ).width.size ≤ x.toInt ∨ x.toInt + w.toInt - 1 < 0 ∨
      (Config.board.variant κ).height.size ≤ y.toInt ∨ y.toInt + h.toInt - 1 < 0)
    (hrange : base.toNat + (w.toInt * h.toInt).toNat ≤ 2 ^ 32)
    (hcells : ∀ k, k < (w.toInt * h.toInt).toNat → Memory.read s.buf (base.toNat + k) ≠ none) :
    exec (.drawBitmap x y w h base) s = .next { s with result := none } := by
  have hread (k : Nat) (hk : k < (w.toInt * h.toInt).toNat) :
      Memory.read s.buf (base.toNat + k) = some ((Memory.read s.buf (base.toNat + k)).getD 0) := by
    obtain ⟨p, hp⟩ := Option.ne_none_iff_exists'.1 (hcells k hk)
    rw [hp]
    rfl
  rw [exec_drawBitmap_of_not_inside hadmitted hw hh hrange hread (by omega), bitmapPlacement_of_misses _ hmiss,
    afterEvents_nil]

/-- Settles O34: the rectangle, the lines as rectangles, the pixel, and the two kinds of undrawn bitmap. -/
theorem offScreenRequestsAreSilent : Obligations.OffScreenRequestsAreSilent := by
  unfold Obligations.OffScreenRequestsAreSilent
  intro s κ color x y w h base hadmitted
  have hone : (1 : Half).toInt = 1 := rfl
  refine ⟨exec_fillRect_of_misses hadmitted color, fun hmiss => ?_, fun hmiss => ?_, fun hout => ?_,
    exec_drawBitmap_of_empty hadmitted, exec_drawBitmap_of_misses hadmitted⟩
  · rw [(fastLinesAreThinRectangles s color x y w).1]
    exact exec_fillRect_of_misses hadmitted color (by omega)
  · rw [(fastLinesAreThinRectangles s color x y h).2]
    exact exec_fillRect_of_misses hadmitted color (by omega)
  · exact (drawPixelPlacesOnePixelOrNothing s κ color x y hadmitted).2 hout

end Sys2Proof.Machine
end

section
/-! PROOF. The composite drawing operations only set windows inside the panel (spec/43_blit.md R144): each body is the
same on two variants that agree there. The windows come from `clip`, from a pixel inside and from a rectangle inside,
and such coordinates survive the 16-bit field they are put into. -/

namespace Sys2Proof.Machine

theorem toNat_coordField {c : Int} (hc : 0 ≤ c) (hmax : c ≤ 32767) : ((coordField c).toNat : Int) = c := by
  rw [coordField, BitVec.toNat_ofInt]
  omega

/-- Two variants of one geometry and preamble with the same window sequence wherever the window is valid. -/
structure AgreeOnPanel (v v' : VariantRecord) : Prop where
  width : v.width = v'.width
  height : v.height = v'.height
  gramWrite : v.gramWrite = v'.gramWrite
  window : ∀ x1 y1 x2 y2 : Half, x1.toNat ≤ x2.toNat → x2.toNat < v.width.size → y1.toNat ≤ y2.toNat →
    y2.toNat < v.height.size → v.windowSeq x1 y1 x2 y2 = v'.windowSeq x1 y1 x2 y2

section
variable {v v' : VariantRecord} (hagree : AgreeOnPanel v v')
include hagree

theorem AgreeOnPanel.setWindow_eq {x1 y1 x2 y2 : Int} (hx1 : 0 ≤ x1) (hx : x1 ≤ x2) (hx2 : x2 < v.width.size)
    (hy1 : 0 ≤ y1) (hy : y1 ≤ y2) (hy2 : y2 < v.height.size) :
    setWindow v x1 y1 x2 y2 = setWindow v' x1 y1 x2 y2 := by
  have hwidth := size_bounds v.width
  have hheight := size_bounds v.height
  have hx1field := toNat_coordField hx1 (by omega)
  have hx2field := toNat_coordField (hx1.trans hx) (by omega)
  have hy1field := toNat_coordField hy1 (by omega)
  have hy2field := toNat_coordField (hy1.trans hy) (by omega)
  have hseq := hagree.window (coordField x1) (coordField y1) (coordField x2) (coordField y2)
    (by omega) (by omega) (by omega) (by omega)
  funext s
  rw [setWindow, setWindow, windowBody, windowBody, hseq]

theorem AgreeOnPanel.floodBody_eq (cfg : Config) (color : Pixel) (count : Nat) :
    floodBody cfg v color count = floodBody cfg v' color count := by
  funext s
  rw [floodBody, floodBody, hagree.gramWrite]

theorem AgreeOnPanel.fillBody_eq (cfg : Config) (color : Pixel) (x y w h : Int) (s : State) :
    fillBody cfg v color x y w h s = fillBody cfg v' color x y w h s := by
  rw [fillBody, fillBody, ← hagree.width, ← hagree.height]
  cases hx : clip x w v.width.size with
  | none => rfl
  | some xs =>
    cases hy : clip y h v.height.size with
    | none => rfl
    | some ys =>
      obtain ⟨hx1, hx12, hx2⟩ := clip_size_within hx
      obtain ⟨hy1, hy12, hy2⟩ := clip_size_within hy
      simp only [hagree.setWindow_eq hx1 hx12 hx2 hy1 hy12 hy2, hagree.floodBody_eq]

theorem AgreeOnPanel.pixelBody_eq (cfg : Config) (color : Pixel) (x y : Int) (s : State) :
    pixelBody cfg v color x y s = pixelBody cfg v' color x y s := by
  have hinside : pixelInside x y v = pixelInside x y v' := by
    rw [pixelInside, pixelInside, hagree.width, hagree.height]
  rw [pixelBody, pixelBody, ← hinside]
  split
  · next hpixel =>
    simp only [pixelInside, Bool.and_eq_true, decide_eq_true_eq] at hpixel
    obtain ⟨⟨⟨hx, hy⟩, hright⟩, hbottom⟩ := hpixel
    rw [hagree.setWindow_eq hx le_rfl hright hy le_rfl hbottom, hagree.floodBody_eq]
  · rfl

theorem AgreeOnPanel.bitmapRow_eq (cfg : Config) (x y : Int) (ps : List Pixel) (s : State) :
    bitmapRow cfg v x y ps s = bitmapRow cfg v' x y ps s := by
  induction ps generalizing x s with
  | nil => rfl
  | cons p ps ih => rw [bitmapRow, bitmapRow, hagree.pixelBody_eq, ih]

theorem AgreeOnPanel.bitmapRows_eq (cfg : Config) (x : Int) (w h : Nat) (y : Int) (ps : List Pixel) (s : State) :
    bitmapRows cfg v x w h y ps s = bitmapRows cfg v' x w h y ps s := by
  induction h generalizing y ps s with
  | zero => rfl
  | succ h ih => rw [bitmapRows, bitmapRows, hagree.bitmapRow_eq, ih]

theorem AgreeOnPanel.bitmapBody_eq (cfg : Config) (x y : Int) {w h : Int} (hw : 0 < w) (hh : 0 < h) (ps : List Pixel)
    (s : State) : bitmapBody cfg v x y w h ps s = bitmapBody cfg v' x y w h ps s := by
  have hinside : rectInside x y w h v = rectInside x y w h v' := by
    rw [rectInside, rectInside, hagree.width, hagree.height]
  rw [bitmapBody, bitmapBody, ← hinside]
  split
  · next hrect =>
    obtain ⟨hx, hy, hright, hbottom⟩ := (rectInside_iff ..).1 hrect
    rw [hagree.setWindow_eq hx (by omega) (by omega) hy (by omega) (by omega), pushBody_after, pushBody_after,
      hagree.gramWrite]
  · exact hagree.bitmapRows_eq cfg x w.toNat h.toNat y ps s

end

/-- Settles O36: the lines are rectangles, and each body is the same on variants that agree on the panel. -/
theorem compositeDrawingUsesOnlyValidWindows : Obligations.CompositeDrawingUsesOnlyValidWindows := by
  unfold Obligations.CompositeDrawingUsesOnlyValidWindows
  intro cfg v v' hwidth hheight hgram hwindow color x y w h ps s
  have hagree : AgreeOnPanel v v' := ⟨hwidth, hheight, hgram, hwindow⟩
  simp only [hlineBody_eq_fillBody, vlineBody_eq_fillBody]
  exact ⟨hagree.fillBody_eq cfg color _ _ _ _ s, hagree.fillBody_eq cfg color _ _ _ _ s,
    hagree.fillBody_eq cfg color _ _ _ _ s, hagree.pixelBody_eq cfg color _ _ s,
    fun hw hh => hagree.bitmapBody_eq cfg _ _ hw hh ps s⟩

end Sys2Proof.Machine
end

section
/-! PROOF. Refusals (spec/60_exceptions.md R154, R155, R161). Each operation asks for its reasons one by one, in the
order of R155's table: its own list of reasons is sorted by their places in the table and holds every reason that can
apply to it, and its answer is found by walking down that list. So it is refused with the first that applies. -/

namespace Sys2Proof.Machine

/-! ### Walking down a list of reasons -/

/-- `out` is the answer of a request that goes down the list: refused with the first reason in it that applies, and
completed where none does. -/
inductive Walks (i : Instr) (s : State) : List Refusal → Result → Prop where
  | completes (t : State) : Walks i s [] (.next t)
  | refused {why : Refusal} {rest : List Refusal} (happlies : reasonApplies why i s) :
      Walks i s (why :: rest) (.refused why)
  | passes {why : Refusal} {rest : List Refusal} {out : Result} (hnot : ¬reasonApplies why i s)
      (hrest : Walks i s rest out) : Walks i s (why :: rest) out

/-- Where the list is sorted, the other reasons that apply stand further down R155's table. -/
theorem Walks.answer {i : Instr} {s : State} {reasons : List Refusal} {out : Result} (h : Walks i s reasons out)
    (hsorted : reasons.Pairwise (reasonRank · < reasonRank ·)) :
    (∃ t, out = .next t ∧ ∀ r ∈ reasons, ¬reasonApplies r i s) ∨
    ∃ why, out = .refused why ∧ reasonApplies why i s ∧
      ∀ r ∈ reasons, reasonApplies r i s → r = why ∨ reasonRank why < reasonRank r := by
  induction h with
  | completes t => exact .inl ⟨t, rfl, nofun⟩
  | refused happlies =>
    obtain ⟨hfirst, -⟩ := List.pairwise_cons.1 hsorted
    exact .inr ⟨_, rfl, happlies, List.forall_mem_cons.2 ⟨fun _ => .inl rfl, fun r hr _ => .inr (hfirst r hr)⟩⟩
  | passes hnot _ ih =>
    obtain ⟨t, hnext, hnone⟩ | ⟨why, hrefused, happlies, hfirst⟩ := ih (List.pairwise_cons.1 hsorted).2
    · exact .inl ⟨t, hnext, List.forall_mem_cons.2 ⟨hnot, hnone⟩⟩
    · exact .inr ⟨why, hrefused, happlies, List.forall_mem_cons.2 ⟨fun h => absurd h hnot, hfirst⟩⟩

/-- A completed answer passes every reason in the list. -/
theorem walks_next {i : Instr} {s : State} {reasons : List Refusal} (hnone : ∀ r ∈ reasons, ¬reasonApplies r i s)
    (t : State) : Walks i s reasons (.next t) := by
  induction reasons with
  | nil => exact .completes t
  | cons why rest ih =>
    obtain ⟨hnot, hrest⟩ := List.forall_mem_cons.1 hnone
    exact .passes hnot (ih hrest)

/-! ### The reasons of each operation (R155, R161) -/

/-- The reasons that R161's row of an operation asks for, in R155's order. -/
def admissionReasons : AdmissionClass → List Refusal
  | .always => []
  | .busSignal => [.notConfigured, .unsupportedPanel]
  | .register => [.notConfigured, .unsupportedPanel, .busBusy, .wrongDirection]
  | .spawn => [.notConfigured, .alreadySpawned]
  | .variant => [.notConfigured, .unsupportedPanel, .noVariant, .busBusy, .wrongDirection]

/-- The reasons of an operation's own rule, in R155's order. -/
def ownReasons : Instr → List Refusal
  | .wrStrobe => [.wrongDirection, .doutUndefined]
  | .writeByte _ | .readByte => [.wrongDirection]
  | .flood _ _ => [.zeroCount]
  | .pushColors _ _ _ | .drawBitmap _ _ _ _ _ => [.bufferRange, .bufferUndefined]
  | _ => []

/-- All reasons that an operation can meet, in R155's order. -/
def reasonsOf (i : Instr) : List Refusal := admissionReasons (admissionClass i) ++ ownReasons i

theorem reasonsOf_sorted (i : Instr) : (reasonsOf i).Pairwise (reasonRank · < reasonRank ·) := by
  cases i <;> simp [reasonsOf, admissionClass, admissionReasons, ownReasons, reasonRank]

theorem ownReasons_of_cellsNeeded {i : Instr} {cells : Nat × Nat} (h : cellsNeeded i = some cells) :
    ownReasons i = [.bufferRange, .bufferUndefined] := by
  cases i with
  | pushColors | drawBitmap => rfl
  | _ => cases h

/-- Every reason that can apply to an operation is in its list. -/
theorem mem_reasonsOf {r : Refusal} {i : Instr} {s : State} (h : reasonApplies r i s) : r ∈ reasonsOf i := by
  rw [reasonsOf, List.mem_append]
  cases r with
  | notModelled | badDescriptor => cases h
  | notConfigured =>
    obtain ⟨hclass, -⟩ := h
    cases hrow : admissionClass i <;> simp_all [admissionReasons]
  | unsupportedPanel =>
    obtain ⟨halways, hspawn, -⟩ := h
    cases hrow : admissionClass i <;> simp_all [admissionReasons]
  | noVariant | alreadySpawned =>
    obtain ⟨hclass, -⟩ := h
    simp [hclass, admissionReasons]
  | busBusy =>
    obtain ⟨hclass | hclass, -⟩ := h <;> simp [hclass, admissionReasons]
  | wrongDirection =>
    obtain ⟨hclass | hclass | rfl | ⟨v, rfl⟩, -⟩ | ⟨rfl, -⟩ := h
    · simp [hclass, admissionReasons]
    · simp [hclass, admissionReasons]
    all_goals simp [ownReasons]
  | doutUndefined =>
    obtain ⟨rfl, -⟩ := h
    simp [ownReasons]
  | zeroCount =>
    obtain ⟨color, rfl⟩ := h
    simp [ownReasons]
  | bufferRange | bufferUndefined =>
    obtain ⟨base, n, hcells, -⟩ := h
    simp [ownReasons_of_cellsNeeded hcells]

/-! ### Requirements and the reasons they answer with -/

/-- A requirement answers with this reason exactly where it applies. -/
structure AsksFor (i : Instr) (s : State) (q : Requirement) (why : Refusal) : Prop where
  unmet : reasonApplies why i s → q s = some why
  met : ¬reasonApplies why i s → q s = none

/-- Requirements are asked one by one, so they walk down their reasons. -/
theorem walks_admitting {i : Instr} {s : State} {reqs : List Requirement} {whys more : List Refusal}
    {k : State → Result} (hasks : List.Forall₂ (AsksFor i s) reqs whys)
    (hk : (∀ q ∈ reqs, q s = none) → Walks i s more (k s)) : Walks i s (whys ++ more) (admitting reqs s k) := by
  induction hasks with
  | nil => exact hk nofun
  | @cons q why reqs whys hq _ ih =>
    rw [admitting_cons]
    by_cases happlies : reasonApplies why i s
    · rw [hq.unmet happlies]
      exact .refused happlies
    · rw [hq.met happlies]
      exact .passes happlies (ih fun hmet => hk (List.forall_mem_cons.2 ⟨hq.met happlies, hmet⟩))

theorem walks_perform {i : Instr} {s : State} {reqs : List Requirement} {whys : List Refusal}
    {body : State → State} (hasks : List.Forall₂ (AsksFor i s) reqs whys) :
    Walks i s whys (perform reqs body s) := by
  rw [← List.append_nil whys]
  exact walks_admitting hasks fun _ => .completes _

section
variable {i : Instr} {s : State}

theorem needConfigured_asksFor (hclass : admissionClass i ≠ .always) :
    AsksFor i s needConfigured .notConfigured where
  unmet h := if_neg (by rw [h.2]; nofun)
  met h := if_pos (by
    cases hphase : s.phase with
    | configured => rfl
    | unconfigured => exact absurd ⟨hclass, hphase⟩ h)

theorem needSupported_asksFor (halways : admissionClass i ≠ .always) (hspawn : admissionClass i ≠ .spawn) :
    AsksFor i s needSupported .unsupportedPanel where
  unmet h := if_pos h.2.2
  met h := if_neg fun hkind => h ⟨halways, hspawn, hkind⟩

theorem needUnspawned_asksFor (hclass : admissionClass i = .spawn) :
    AsksFor i s needUnspawned .alreadySpawned where
  unmet h := if_neg h.2
  met h := if_pos (not_not.1 fun hkind => h ⟨hclass, hkind⟩)

theorem needCsIdle_asksFor (hclass : admissionClass i = .register ∨ admissionClass i = .variant) :
    AsksFor i s needCsIdle .busBusy where
  unmet h := if_neg h.2
  met h := if_pos (not_not.1 fun hcs => h ⟨hclass, hcs⟩)

theorem needDirWrite_asksFor
    (hwrites : admissionClass i = .register ∨ admissionClass i = .variant ∨ i = .wrStrobe ∨ ∃ v, i = .writeByte v) :
    AsksFor i s (needDir .write) .wrongDirection where
  unmet h := by
    obtain ⟨-, hdir⟩ | ⟨rfl, -⟩ := h
    · exact needDir_unmet hdir
    · exact absurd hwrites (by simp [admissionClass])
  met h := if_pos (not_not.1 fun hdir => h (.inl ⟨hwrites, hdir⟩))

end

theorem needDirRead_asksFor (s : State) : AsksFor .readByte s (needDir .read) .wrongDirection where
  unmet h := by
    obtain ⟨hwrites, -⟩ | ⟨-, hdir⟩ := h
    · exact absurd hwrites (by simp [admissionClass])
    · exact needDir_unmet hdir
  met h := if_pos (not_not.1 fun hdir => h (.inr ⟨rfl, hdir⟩))

theorem needDout_asksFor (s : State) : AsksFor .wrStrobe s needDout .doutUndefined where
  unmet h := needDout_unmet h.2
  met h := needDout_met fun hdout => h ⟨rfl, hdout⟩

/-! ### BUF (R42) -/

theorem bufferRange_applies_iff {i : Instr} {s : State} {base n : Nat} (hcells : cellsNeeded i = some (base, n)) :
    reasonApplies .bufferRange i s ↔ ¬base + n ≤ 2 ^ 32 := by
  simp [reasonApplies, hcells]

theorem bufferUndefined_applies_iff {i : Instr} {s : State} {base n : Nat} (hcells : cellsNeeded i = some (base, n)) :
    reasonApplies .bufferUndefined i s ↔ Memory.readMany s.buf base n = none := by
  have hread := readMany_isSome_iff s.buf base n
  rw [← not_iff_not, ← ne_eq (Memory.readMany ..), ← Option.isSome_iff_ne_none, hread]
  simp [reasonApplies, hcells, Option.isSome_iff_ne_none]

/-- The range is asked for first, then the cells. -/
theorem walks_withCells {i : Instr} {s : State} {base n : Nat} (hcells : cellsNeeded i = some (base, n))
    (body : List Pixel → State) :
    Walks i s [.bufferRange, .bufferUndefined] (withCells base n (clearResult s) fun ps => .next (body ps)) := by
  unfold withCells
  split
  · next hrange =>
    refine .passes (mt (bufferRange_applies_iff hcells).1 (not_not.2 hrange)) ?_
    split
    · next ps hread =>
      have hsome : Memory.readMany s.buf base n ≠ none := Option.ne_none_iff_exists'.2 ⟨ps, hread⟩
      exact .passes (mt (bufferUndefined_applies_iff hcells).1 hsome) (.completes _)
    · next hread => exact .refused ((bufferUndefined_applies_iff hcells).2 hread)
  · next hrange => exact .refused ((bufferRange_applies_iff hcells).2 hrange)

/-! ### Every operation walks down its reasons -/

section
variable {i : Instr} {s : State}

theorem busSignalNeeds_asksFor (halways : admissionClass i ≠ .always) (hspawn : admissionClass i ≠ .spawn) :
    List.Forall₂ (AsksFor i s) busSignalNeeds [.notConfigured, .unsupportedPanel] :=
  .cons (needConfigured_asksFor halways) (.cons (needSupported_asksFor halways hspawn) .nil)

/-- R95 asks for R80's row, then for CS and DIR. -/
theorem walks_perform_registerNeeds (hclass : admissionClass i = .register) (body : State → State) :
    Walks i s (admissionReasons .register) (perform registerNeeds body s) := by
  have hrow := busSignalNeeds_asksFor (i := i) (s := s) (by simp [hclass]) (by simp [hclass])
  have hcs := needCsIdle_asksFor (i := i) (s := s) (.inl hclass)
  have hdir := needDirWrite_asksFor (i := i) (s := s) (.inl hclass)
  exact walks_perform (List.rel_append hrow (.cons hcs (.cons hdir .nil)))

/-- An operation that needs a variant walks down R161's row, then goes on where R130 holds. -/
theorem walks_performVariant (hclass : admissionClass i = .variant) {cfg : Config}
    {k : VariantRecord → State → Result} {more : List Refusal}
    (hk : ∀ v, Walks i s more (k v (clearResult s))) :
    Walks i s (admissionReasons .variant ++ more) (performVariant cfg k s) := by
  have halways : admissionClass i ≠ .always := by simp [hclass]
  have hspawn : admissionClass i ≠ .spawn := by simp [hclass]
  refine walks_admitting (whys := [.notConfigured]) (.cons (needConfigured_asksFor halways) .nil) fun _ => ?_
  unfold withVariant
  split
  · next hkind => exact .refused ⟨halways, hspawn, hkind⟩
  · next hkind => exact .passes (by simp [reasonApplies, hkind]) (.refused ⟨hclass, hkind⟩)
  · next κ hkind =>
    refine .passes (by simp [reasonApplies, hkind]) (.passes (by simp [reasonApplies, hkind]) ?_)
    exact walks_admitting (.cons (needCsIdle_asksFor (.inr hclass))
      (.cons (needDirWrite_asksFor (.inr (.inl hclass))) .nil)) fun _ => hk _

/-- One that completes wherever R130 holds. -/
theorem walks_performVariant_next (hclass : admissionClass i = .variant) {cfg : Config}
    (body : VariantRecord → State → State) :
    Walks i s (admissionReasons .variant ++ []) (performVariant cfg (fun v u => .next (body v u)) s) :=
  walks_performVariant hclass fun _ => .completes _

end

/-- BusSignal operations ask for R80's row, three of them for more. -/
theorem exec_busSignal_walks {i : Instr} (hclass : admissionClass i = .busSignal) (s : State) :
    Walks i s (reasonsOf i) (exec i s) := by
  have hrow := busSignalNeeds_asksFor (i := i) (s := s) (by simp [hclass]) (by simp [hclass])
  cases i with
  | csAssert | csIdle | cdCommand | cdData | setDirWrite | setDirRead => exact walks_perform hrow
  | wrStrobe =>
    have hdir := needDirWrite_asksFor (i := .wrStrobe) (s := s) (by simp)
    exact walks_perform (List.rel_append hrow (.cons hdir (.cons (needDout_asksFor s) .nil)))
  | writeByte v =>
    have hdir := needDirWrite_asksFor (i := .writeByte v) (s := s) (by simp)
    exact walks_perform (List.rel_append hrow (.cons hdir .nil))
  | readByte => exact walks_perform (List.rel_append hrow (.cons (needDirRead_asksFor s) .nil))
  | _ => cases hclass

theorem exec_register_walks {i : Instr} (hclass : admissionClass i = .register) (s : State) :
    Walks i s (reasonsOf i) (exec i s) := by
  cases i with
  | writeCommand | writeReg8 | writeReg16 | writeReg24 | writeReg32 | writeRegPair | readReg16 | readReg32 | readId =>
    exact walks_perform_registerNeeds hclass _
  | _ => cases hclass

theorem exec_spawn_walks (id : Half) (s : State) : Walks (.spawn id) s (reasonsOf (.spawn id)) (exec (.spawn id) s) :=
  walks_perform (.cons (needConfigured_asksFor nofun) (.cons (needUnspawned_asksFor rfl) .nil))

/-- FLOOD, PUSH_COLORS and DRAW_BITMAP ask for something more of their operands. -/
theorem exec_variant_walks {i : Instr} (hclass : admissionClass i = .variant) (s : State) :
    Walks i s (reasonsOf i) (exec i s) := by
  cases i with
  | beginInit | setAddrWindow | drawPixel | fillRect | drawFastHLine | drawFastVLine =>
    exact walks_performVariant_next hclass _
  | flood color count =>
    simp only [exec, execFlood, floodOn]
    refine walks_performVariant hclass fun v => ?_
    split
    · next hcount => exact .refused ⟨color, by rw [hcount]⟩
    · next hcount => exact .passes (by simpa [reasonApplies] using hcount) (.completes _)
  | pushColors first count base =>
    simp only [exec, execPushColors, pushColorsOn]
    exact walks_performVariant hclass fun v => walks_withCells rfl _
  | drawBitmap x y w h base =>
    simp only [exec, execDrawBitmap, drawBitmapOn]
    refine walks_performVariant hclass fun v => ?_
    split
    · next hempty =>
      have hnone : cellsNeeded (.drawBitmap x y w h base) = none :=
        if_neg fun ⟨hw, hh⟩ => hempty.elim (not_le.2 hw) (not_le.2 hh)
      exact walks_next (by simp [ownReasons, reasonApplies, hnone]) _
    · next hsome =>
      have hcells : cellsNeeded (.drawBitmap x y w h base) = some (base.toNat, (sint w * sint h).toNat) :=
        if_pos (by simpa [not_or] using hsome)
      exact walks_withCells hcells _
  | _ => cases hclass

theorem exec_walks (i : Instr) (s : State) : Walks i s (reasonsOf i) (exec i s) := by
  cases hclass : admissionClass i with
  | always =>
    obtain rfl := (admissionClass_eq_always_iff i).1 hclass
    exact .completes _
  | spawn =>
    obtain ⟨id, rfl⟩ := (admissionClass_eq_spawn_iff i).1 hclass
    exact exec_spawn_walks id s
  | busSignal => exact exec_busSignal_walks hclass s
  | register => exact exec_register_walks hclass s
  | variant => exact exec_variant_walks hclass s

/-- An operation completes where no reason applies, else it is refused with a reason that stands above all others
that apply. -/
theorem exec_answer (i : Instr) (s : State) :
    (∃ t, exec i s = .next t ∧ ∀ r, ¬reasonApplies r i s) ∨
    ∃ why, exec i s = .refused why ∧ reasonApplies why i s ∧
      ∀ r, reasonApplies r i s → r = why ∨ reasonRank why < reasonRank r := by
  obtain ⟨t, hnext, hnone⟩ | ⟨why, hrefused, happlies, hfirst⟩ := (exec_walks i s).answer (reasonsOf_sorted i)
  · exact .inl ⟨t, hnext, fun r h => hnone r (mem_reasonsOf h) h⟩
  · exact .inr ⟨why, hrefused, happlies, fun r h => hfirst r (mem_reasonsOf h) h⟩

/-- Where an operation completes, no reason applies. -/
theorem not_reasonApplies_of_exec_next {i : Instr} {s t : State} (h : exec i s = .next t) (r : Refusal) :
    ¬reasonApplies r i s := by
  obtain ⟨-, -, hnone⟩ | ⟨why, hrefused, -, -⟩ := exec_answer i s
  · exact hnone r
  · rw [hrefused] at h
    cases h

/-- Settles O37: the reason that `exec_answer` names is the only one that no other stands above. -/
theorem refusedExactlyForTheFirstReason : Obligations.RefusedExactlyForTheFirstReason := by
  unfold Obligations.RefusedExactlyForTheFirstReason
  intro i s
  obtain ⟨t, hnext, hnone⟩ | ⟨why, hrefused, happlies, hfirst⟩ := exec_answer i s
  · refine ⟨fun r => ⟨fun h => ?_, fun h => absurd h.1 (hnone r)⟩, fun _ => ⟨t, hnext⟩⟩
    rw [hnext] at h
    cases h
  · refine ⟨fun r => ⟨fun h => ?_, fun ⟨hr, hmin⟩ => ?_⟩, fun hnone => absurd happlies (hnone why)⟩
    · rw [hrefused] at h
      cases h
      exact ⟨happlies, fun r' hr' => (hfirst r' hr').elim (fun h => h ▸ le_rfl) Nat.le_of_lt⟩
    · obtain rfl | hbelow := hfirst r hr
      · exact hrefused
      · exact absurd (hmin why happlies) (Nat.not_le.2 hbelow)

end Sys2Proof.Machine
end

section
/-! PROOF. The lifecycle and the mark of a run (spec/60_exceptions.md R151, R154, R160). Only RESET and SPAWN write what
the modes are made of, PHASE and KIND. With KIND Unsupported all operations but RESET are refused, and RESET lowers no
strobe. A refused act leaves a run's state as it was, so both carry over from an act to a run. -/

namespace Sys2Proof.Machine

/-! ### Modes (R160) -/

/-- How a mode may change (R160). -/
def Advances (m m' : Mode) : Prop :=
  m' = m ∨ (m = .unconfigured ∧ m' = .probing) ∨ (m = .probing ∧ (m' = .ready ∨ m' = .unsupported))

theorem modeOf_congr {s t : State} (hphase : t.phase = s.phase) (hkind : t.kind = s.kind) : modeOf t = modeOf s := by
  rw [modeOf, modeOf, hphase, hkind]

/-- RESET configures, and keeps KIND. -/
theorem modeOf_configuring {s t : State} {m : Mode} (hmode : modeOf s = some m) (hphase : t.phase = .configured)
    (hkind : t.kind = s.kind) : ∃ m', modeOf t = some m' ∧ Advances m m' := by
  cases hs : s.phase with
  | configured => exact ⟨m, (modeOf_congr (hphase.trans hs.symm) hkind).trans hmode, .inl rfl⟩
  | unconfigured =>
    cases hk : s.kind with
    | none =>
      have hm : m = .unconfigured := by simpa [modeOf, hs, hk, eq_comm] using hmode
      exact ⟨.probing, by simp [modeOf, hphase, hkind, hk], .inr (.inl ⟨hm, rfl⟩)⟩
    | unsupported | known => simp [modeOf, hs, hk] at hmode

/-- SPAWN selects KIND, in a configured state. -/
theorem modeOf_selecting {s t : State} {m : Mode} (hmode : modeOf s = some m) (hphase : s.phase = .configured)
    (hkind : s.kind = .none) (hphase' : t.phase = .configured) : ∃ m', modeOf t = some m' ∧ Advances m m' := by
  have hm : m = .probing := by simpa [modeOf, hphase, hkind, eq_comm] using hmode
  cases hk : t.kind with
  | none => exact ⟨.probing, by simp [modeOf, hphase', hk], .inl hm.symm⟩
  | unsupported => exact ⟨.unsupported, by simp [modeOf, hphase', hk], .inr (.inr ⟨hm, .inr rfl⟩)⟩
  | known k => exact ⟨.ready, by simp [modeOf, hphase', hk], .inr (.inr ⟨hm, .inl rfl⟩)⟩

theorem exec_mode_advances {i : Instr} {s t : State} {m : Mode} (hmode : modeOf s = some m)
    (h : exec i s = .next t) : ∃ m', modeOf t = some m' ∧ Advances m m' := by
  by_cases hreset : i = .reset
  · subst hreset
    obtain ⟨trace, rfl⟩ := exec_reset_next h
    exact modeOf_configuring hmode rfl rfl
  · by_cases hspawn : ∃ id, i = .spawn id
    · have hphase := configured_of_exec_next hreset h
      obtain ⟨id, rfl⟩ := hspawn
      obtain ⟨hkind, kind, word, rfl⟩ := exec_spawn_next h
      exact modeOf_selecting hmode hphase hkind hphase
    · have hkeeps := exec_keepsBus hreset (not_exists.1 hspawn) h
      exact ⟨m, (modeOf_congr hkeeps.phase hkeeps.kind).trans hmode, .inl rfl⟩

theorem takeAct_mode_advances {a : HostAct} {s t : State} {m : Mode} (hmode : modeOf s = some m)
    (h : takeAct a s = .next t) : ∃ m', modeOf t = some m' ∧ Advances m m' := by
  obtain ⟨i, hexec⟩ | ⟨index, pixel, rfl⟩ | ⟨index, rfl⟩ := takeAct_next h
  · exact exec_mode_advances hmode hexec
  · exact ⟨m, hmode, .inl rfl⟩
  · exact ⟨m, hmode, .inl rfl⟩

/-- Settles O51: the host's list is no part of the mode, and an act advances it or keeps it. -/
theorem modesOnlyAdvance : Obligations.ModesOnlyAdvance := by
  unfold Obligations.ModesOnlyAdvance
  intro s t m hmode hstep
  obtain rfl | ⟨a, rest, hact⟩ := step_next hstep
  · exact ⟨m, hmode, .inl rfl⟩
  · exact takeAct_mode_advances (s := { s with pending := rest }) hmode hact

/-! ### An unsupported panel (R151, R161) -/

/-- The trace grows from `s` to `t` by events that strobe nothing. -/
def ExtendsWithoutStrobe (s t : State) : Prop :=
  ∃ ev : List Event, t.trace = s.trace ++ ev ∧ ∀ e ∈ ev, isStrobe e = false

theorem extendsWithoutStrobe_of_trace_eq {s t : State} (htrace : t.trace = s.trace) : ExtendsWithoutStrobe s t :=
  ⟨[], by simp [htrace], nofun⟩

theorem ExtendsWithoutStrobe.trans {s t u : State} (hst : ExtendsWithoutStrobe s t)
    (htu : ExtendsWithoutStrobe t u) : ExtendsWithoutStrobe s u := by
  obtain ⟨ev₁, htrace₁, hev₁⟩ := hst
  obtain ⟨ev₂, htrace₂, hev₂⟩ := htu
  exact ⟨ev₁ ++ ev₂, by rw [htrace₂, htrace₁, List.append_assoc], List.forall_mem_append.2 ⟨hev₁, hev₂⟩⟩

/-- RESET only raises WR and RD (R111). -/
theorem resetEvents_no_strobe (cfg : Config) : ∀ e ∈ resetEvents cfg, isStrobe e = false := by
  unfold resetEvents
  split <;> decide

/-- Every other operation asks that KIND is not Unsupported, SPAWN that it is none. -/
theorem eq_reset_of_exec_next_unsupported {i : Instr} {s t : State} (hkind : s.kind = .unsupported)
    (h : exec i s = .next t) : i = .reset := by
  have hnone := not_reasonApplies_of_exec_next h
  by_contra hreset
  have halways : admissionClass i ≠ .always := mt (admissionClass_eq_always_iff i).1 hreset
  by_cases hspawn : admissionClass i = .spawn
  · exact hnone .alreadySpawned ⟨hspawn, by simp [hkind]⟩
  · exact hnone .unsupportedPanel ⟨halways, hspawn, hkind⟩

theorem takeAct_unsupported_no_strobe {a : HostAct} {s t : State} (hkind : s.kind = .unsupported)
    (h : takeAct a s = .next t) : ExtendsWithoutStrobe s t := by
  obtain ⟨i, hexec⟩ | ⟨index, pixel, rfl⟩ | ⟨index, rfl⟩ := takeAct_next h
  · obtain rfl := eq_reset_of_exec_next_unsupported hkind hexec
    rw [exec_reset_eq_resetEvents] at hexec
    cases hexec
    exact ⟨_, rfl, resetEvents_no_strobe _⟩
  · exact extendsWithoutStrobe_of_trace_eq rfl
  · exact extendsWithoutStrobe_of_trace_eq rfl

theorem runActs_unsupported_no_strobe (acts : List HostAct) (r : Run) (hkind : r.state.kind = .unsupported) :
    ExtendsWithoutStrobe r.state (runActs r acts).state := by
  induction acts generalizing r with
  | nil => exact extendsWithoutStrobe_of_trace_eq rfl
  | cons a acts ih =>
    have hselected : r.state.kind ≠ .none := by simp [hkind]
    have hact : ExtendsWithoutStrobe r.state (runAct r a).state := by
      obtain hnext | hsame := runAct_state r a
      · exact takeAct_unsupported_no_strobe hkind hnext
      · exact extendsWithoutStrobe_of_trace_eq (by rw [hsame])
    have hkind' : (runAct r a).state.kind = .unsupported := (runActs_kind_of_selected [a] r hselected).trans hkind
    exact hact.trans (ih (runAct r a) hkind')

/-- Settles O53: by induction over the acts, each of which is RESET, a change of BUF or refused. -/
theorem unsupportedPanelIsNeverWrittenAgain : Obligations.UnsupportedPanelIsNeverWrittenAgain := by
  unfold Obligations.UnsupportedPanelIsNeverWrittenAgain
  intro acts r hkind
  have hselected : r.state.kind ≠ .none := by simp [hkind]
  obtain ⟨ev, htrace, hquiet⟩ := runActs_unsupported_no_strobe acts r hkind
  exact ⟨ev, htrace, hquiet, (runActs_kind_of_selected acts r hselected).trans hkind⟩

/-! ### The mark of a run (R154, R174) -/

theorem runAct_of_refused {r : Run} {a : HostAct} {why : Refusal} (h : takeAct a r.state = .refused why) :
    runAct r a = { state := r.state, refused := true } := by
  rw [runAct, h]

theorem runAct_of_next {r : Run} {a : HostAct} {t : State} (h : takeAct a r.state = .next t) :
    runAct r a = { state := t, refused := r.refused } := by
  rw [runAct, h]

theorem runAct_refused_of_marked {r : Run} (a : HostAct) (hmark : r.refused = true) : (runAct r a).refused = true := by
  cases hact : takeAct a r.state with
  | next t => rw [runAct_of_next hact, hmark]
  | refused why => rw [runAct_of_refused hact]
  | fault f => exact nomatch f

theorem runActs_refused_of_marked (acts : List HostAct) (r : Run) (hmark : r.refused = true) :
    (runActs r acts).refused = true := by
  induction acts generalizing r with
  | nil => exact hmark
  | cons a acts ih => exact ih (runAct r a) (runAct_refused_of_marked a hmark)

/-- Settles O54: the mark outlives each act, and so a whole run. -/
theorem refusalMarksTheRunForGood : Obligations.RefusalMarksTheRunForGood := by
  unfold Obligations.RefusalMarksTheRunForGood
  exact ⟨fun _ _ _ => runAct_of_refused, fun _ _ _ => runAct_of_next, runActs_refused_of_marked⟩

end Sys2Proof.Machine
end

section
/-! PROOF. The panel's settling in RESET (spec/70_reset_and_hazards.md R172, R185). Where a reset line is wired, RESET's
events end with the two waits of the pulse, and a trace takes no less time than its end does. -/

namespace Sys2Proof.Machine

/-! ### The time of a trace (R185) -/

theorem leastTime_append (cfg : Config) (ev₁ ev₂ : List Event) :
    leastTime cfg (ev₁ ++ ev₂) = leastTime cfg ev₁ + leastTime cfg ev₂ := by
  rw [leastTime, List.map_append, List.sum_append]
  rfl

theorem leastTime_le_of_suffix (cfg : Config) {ev₁ ev₂ : List Event} (hsuffix : ev₁ <:+ ev₂) :
    leastTime cfg ev₁ ≤ leastTime cfg ev₂ := by
  obtain ⟨before, rfl⟩ := hsuffix
  rw [leastTime_append]
  exact Nat.le_add_left _ _

/-! ### The reset pulse (R111, R172) -/

theorem le_leastDuration_resetLow (cfg : Config) : 100000000 ≤ leastDuration cfg .resetLow :=
  Nat.le_add_right _ _

theorem le_leastDuration_resetHigh (cfg : Config) : 100000000 ≤ leastDuration cfg .resetHigh :=
  Nat.le_add_right _ _

/-- The end of RESET's events where a reset line is wired: it goes low and then high, each with its wait (R111). -/
def resetPulse : List Event := [.rst 0, .delay .resetLow, .rst 1, .delay .resetHigh]

theorem resetPulse_suffix_resetEvents {cfg : Config} (hpin : cfg.hasResetPin = true) :
    resetPulse <:+ resetEvents cfg := by
  rw [resetEvents, if_pos hpin]
  exact ⟨[.cfg, .cs 1, .cd 1, .wr 1, .rd 1, .dir .write, .rst 1], rfl⟩

theorem leastTime_resetPulse (cfg : Config) :
    leastTime cfg resetPulse = leastDuration cfg .resetLow + leastDuration cfg .resetHigh := by
  simp [leastTime, resetPulse]

theorem le_leastTime_resetEvents {cfg : Config} (hpin : cfg.hasResetPin = true) :
    200000000 ≤ leastTime cfg (resetEvents cfg) :=
  calc 200000000
    _ = 100000000 + 100000000 := rfl
    _ ≤ leastDuration cfg .resetLow + leastDuration cfg .resetHigh :=
        Nat.add_le_add (le_leastDuration_resetLow cfg) (le_leastDuration_resetHigh cfg)
    _ = leastTime cfg resetPulse := (leastTime_resetPulse cfg).symm
    _ ≤ leastTime cfg (resetEvents cfg) := leastTime_le_of_suffix cfg (resetPulse_suffix_resetEvents hpin)

/-- Settles O16: RESET's events end with the pulse where a line is wired, and leave RST alone where none is. -/
theorem afterResetThePanelHasSettled : Obligations.AfterResetThePanelHasSettled := by
  unfold Obligations.AfterResetThePanelHasSettled
  intro s
  refine ⟨_, _, exec_reset_eq_resetEvents s, rfl, rfl, rfl, rfl, rfl, rfl, rfl, ?_⟩
  by_cases hpin : Config.board.hasResetPin = true
  · rw [if_pos hpin]
    exact ⟨if_pos hpin, resetPulse_suffix_resetEvents hpin, le_leastDuration_resetLow _,
      le_leastDuration_resetHigh _, le_leastTime_resetEvents hpin⟩
  · rw [if_neg hpin]
    exact if_neg hpin

end Sys2Proof.Machine
end
